-- ==== Sys2Proof/Word.lean ====
section
/-! DEFINITION. The word and byte types of LFPV's registers and command words (00_scope.md R7, 10_state.md R12). -/

namespace Sys2Proof

/-- A register value: every register is 32 bits wide (R7). -/
abbrev Word := BitVec 32

/-- One operand byte of a command word (30_encoding.md R60). -/
abbrev Byte := BitVec 8

end Sys2Proof
end

