-- ==== Sys2Proof/Config.lean ====
section
/-! DEFINITION. What is fixed for the life of the machine (00_scope.md R6), the calls to the external collaborators
(10_state.md R30 to R33), and the free values: constants without a body, of which no proof can see a value. -/

namespace Sys2Proof

/-- The amplitude demodulator's variants the block asks for (R31); diphase is biphase with the inversion flag set. -/
inductive AskKind where
  | manchester
  | biphase
deriving DecidableEq, Repr

/-- A waveform passed to a collaborator: the samples of `WAVE[lo..hi)`, with the bounds they were taken from (R30). -/
structure Window where
  lo : Nat
  hi : Nat
  samples : List Int
deriving DecidableEq, Repr

/-- One call to an external collaborator with all its arguments (R31, R32, R33). -/
inductive OracleCall where
  /-- `DemodAsk(kind, wave, clk, invert, maxErr)`; `clk = 0` lets the demodulator find its own clock (R31). -/
  | demodAsk (kind : AskKind) (wave : Window) (clk : Nat) (invert : Bool) (maxErr : Nat)
  /-- `EstimateFskClock(wave)` (R32). -/
  | estimateFskClock (wave : Window)
  /-- `DemodFsk(wave, clk)` (R32). -/
  | demodFsk (wave : Window) (clk : Nat)
  /-- `EstimatePskClock(wave)` (R33). -/
  | estimatePskClock (wave : Window)
  /-- `DemodPsk(wave, clk, variant, inverted)` (R33). -/
  | demodPsk (wave : Window) (clk : Nat) (variant : Nat) (inverted : Bool)
deriving DecidableEq, Repr

/-- A clock estimator's success value: a positive integer (R32, R33). -/
abbrev PosClock := { n : Nat // 0 < n }

/-- The record `Em4x05ChipInfo` (43_em4x05_cascade.md R140). -/
structure ChipInfo where
  chipType : Word
  capType : Word
  custCode : Word
  serial : Word
deriving DecidableEq, Repr, Inhabited

/-- Which function a functional parameter of R6 is: the default the spec chose, or one of the other functions it could
be, about which nothing is known (93_implementation_defined.md W4; log 9). -/
inductive Variant where
  | standard
  | other (k : Nat)
deriving DecidableEq, Repr

/-- The implementation parameters of R6 that R6 leaves open, as plain data. No step changes them. -/
structure Params where
  /-- WMAX, capacity of WAVE in samples. -/
  wmax : Nat
  /-- PMAX, capacity of PULSE in entries. -/
  pmax : Nat
  /-- BMAX, capacity of BITS in bits. -/
  bmax : Nat
  /-- SAMPLE_W: a concrete signed sample width, or none for mathematical integers. -/
  sampleWidth : Option Nat
  threshHi : Variant
  threshLo : Variant
  pulseShape : Variant
  psk2map : Variant
  chipInfo : Variant
  /-- HOST_BASE, which no rule uses (20_memory.md R48). -/
  hostBase : Nat
deriving DecidableEq, Repr

/-- The ranges R6 and D8 give the parameters. DEDUCED (log 8): a signed width has at least one bit. -/
abbrev Params.wf (p : Params) : Prop :=
  (1 ≤ p.wmax ∧ p.wmax < 2 ^ 32) ∧ 1 ≤ p.pmax ∧ 64 ≤ p.bmax ∧ p.sampleWidth ≠ some 0

/-- DESIGN CHOICE (log 7, log 9, log 11): the parameters of the machine right after reset. Capacities large enough for
every waveform E410ENC writes; samples are mathematical integers; every functional parameter is R6's default. -/
def Params.default : Params :=
  { wmax := 65536, pmax := 65536, bmax := 65536, sampleWidth := none, threshHi := .standard, threshLo := .standard,
    pulseShape := .standard, psk2map := .standard, chipInfo := .standard, hostBase := 0 }

namespace Config

/-- Free value (log 4): what a demodulator answers to the `n`-th oracle call ever made. Calls are not assumed
repeatable (R30), so the number of the call is an argument. `none` is `Fail`. -/
opaque demodAnswer : Nat → OracleCall → Option (List Bool)

/-- Free value (log 4): what a clock estimator answers to the `n`-th oracle call ever made. `none` is `Fail`. -/
opaque clockAnswer : Nat → OracleCall → Option PosClock

/-- Free value (log 10): element `i` of WAVE where nothing has written it since reset number `epoch`.
`State.freeSample` brings it into the range of SAMPLE_W. -/
opaque freeSample : Nat → Nat → Int

/-- Free value (log 17): what WAVE holds after the block stores the value `v`, where SAMPLE_W is fixed at `width` bits
and `v` does not fit it. `State.storedSample` brings it into range. -/
opaque unfitSample : (width : Option Nat) → (v : Int) → Int

/-- Free value (log 10): element `i` of PULSE where nothing has written it since reset number `epoch`. -/
opaque freeWidth : Nat → Nat → Word

/-- Free value (log 10): element `i` of BITS where nothing has written it since reset number `epoch`. -/
opaque freeBit : Nat → Nat → Bool

/-- Free value (log 9): the `k`-th other high threshold rule, of the largest and smallest sample (R90). -/
opaque threshHi : Nat → Int → Int → Int

/-- Free value (log 9): the `k`-th other low threshold rule, of the largest and smallest sample (R90). -/
opaque threshLo : Nat → Int → Int → Int

/-- Free value (log 9): sample `t` of the `clk` samples the `k`-th other pulse shape gives a bit (R153). -/
opaque pulseShape : Nat → Bool → Nat → Nat → Int

/-- Free value (log 9): bit `i` of the `k`-th other remapping of a PSK variant 1 stream (R131). -/
opaque psk2Bit : Nat → List Bool → Nat → Bool

/-- Free value (log 9): the `k`-th other field extraction of word 0 and word 1 (R140). -/
opaque chipInfo : Nat → Word → Word → ChipInfo

end Config
end Sys2Proof
end

