-- ==== Sys2Proof/Syntax.lean ====
section
/-! DEFINITION. The 18 commands (30_encoding.md R62), one constructor per row of spec/opcode_table.json. Operands are
the numbers and flags rule R61 assembles from the word's bytes. -/

namespace Sys2Proof

/-- A command, with the operands its word carries (R61, R62). -/
inductive Instr where
  | nop
  | rowpar (rows cols : Nat) (ptype : Bool)
  | colpar (rows cols : Nat) (ptype : Bool)
  | blkpar (rows cols : Nat) (ptype : Bool)
  | pulses
  | clksel (clk : Nat)
  | lwfind
  | lwsync (clk : Nat)
  | x50read (clk : Nat)
  | x50code
  | x05dec (addr : Nat) (readCmd : Bool)
  | x05test (readCmd : Bool)
  | psk2map
  | x05info
  | e410enc (clk : Nat)
  | e410dec
  | e410wchk (clk : Nat)
  | rst
deriving DecidableEq, Repr

end Sys2Proof
end

