-- ==== Sys2Proof/WellFormed.lean ====
section
/-! DEFINITION. Well-formed commands: every operand fits the field that carries it (30_encoding.md R60, R61). A value
that fits but is illegal for the operation is well formed; the command itself raises InvalidArgument for it (R65). -/

namespace Sys2Proof

/-- An operand taken from the word is an unsigned byte (R61). -/
abbrev fitsByte (n : Nat) : Bool := n < 256

/-- Each byte operand fits its byte; flags are one bit by their type. -/
def wellFormed : Instr → Bool
  | .nop => true
  | .rowpar rows cols _ => fitsByte rows && fitsByte cols
  | .colpar rows cols _ => fitsByte rows && fitsByte cols
  | .blkpar rows cols _ => fitsByte rows && fitsByte cols
  | .pulses => true
  | .clksel clk => fitsByte clk
  | .lwfind => true
  | .lwsync clk => fitsByte clk
  | .x50read clk => fitsByte clk
  | .x50code => true
  | .x05dec addr _ => fitsByte addr
  | .x05test _ => true
  | .psk2map => true
  | .x05info => true
  | .e410enc clk => fitsByte clk
  | .e410dec => true
  | .e410wchk clk => fitsByte clk
  | .rst => true

end Sys2Proof
end

