-- ==== Sys2Proof/Decode.lean ====
section
/-! DEFINITION. Decoding a command word and encoding a command (30_encoding.md R60 to R64). The decoder follows the
field table of R62; the match and mask table of R63 stands beside it, and the statements compare the two. -/

namespace Sys2Proof

/-- Bits 31:24, the operation code (R60). -/
def opField (w : Word) : Nat := w.toNat / 2 ^ 24

/-- Bits 23:16, the third operand byte (R60). -/
def cField (w : Word) : Nat := w.toNat / 2 ^ 16 % 2 ^ 8

/-- Bits 15:8, the second operand byte (R60). -/
def bField (w : Word) : Nat := w.toNat / 2 ^ 8 % 2 ^ 8

/-- Bits 7:0, the first operand byte (R60). -/
def aField (w : Word) : Nat := w.toNat % 2 ^ 8

/-- A word whose must-be-0 bits are not 0 is illegal (R64). -/
def whenLegal (mbz : Bool) (i : Instr) : Option Instr := if mbz then some i else none

/-- Decoding (R62, R64): `op` alone identifies the command, the must-be-0 fields are checked, everything else is
illegal. Bit 0 of `c` is the flag operand, its bits 7:1 must be 0. -/
def decode (w : Word) : Option Instr :=
  let a := aField w
  let b := bField w
  let c := cField w
  match opField w with
  | 0x00 => whenLegal (c == 0 && b == 0 && a == 0) .nop
  | 0x01 => whenLegal (c < 2) (.rowpar a b (c == 1))
  | 0x02 => whenLegal (c < 2) (.colpar a b (c == 1))
  | 0x03 => whenLegal (c < 2) (.blkpar a b (c == 1))
  | 0x10 => whenLegal (c == 0 && b == 0 && a == 0) .pulses
  | 0x11 => whenLegal (c == 0 && b == 0) (.clksel a)
  | 0x12 => whenLegal (c == 0 && b == 0 && a == 0) .lwfind
  | 0x13 => whenLegal (c == 0 && b == 0) (.lwsync a)
  | 0x20 => whenLegal (c == 0 && b == 0) (.x50read a)
  | 0x21 => whenLegal (c == 0 && b == 0 && a == 0) .x50code
  | 0x30 => whenLegal (c < 2 && b == 0) (.x05dec a (c == 1))
  | 0x31 => whenLegal (c < 2 && b == 0 && a == 0) (.x05test (c == 1))
  | 0x32 => whenLegal (c == 0 && b == 0 && a == 0) .psk2map
  | 0x33 => whenLegal (c == 0 && b == 0 && a == 0) .x05info
  | 0x40 => whenLegal (c == 0 && b == 0) (.e410enc a)
  | 0x41 => whenLegal (c == 0 && b == 0 && a == 0) .e410dec
  | 0x42 => whenLegal (c == 0 && b == 0) (.e410wchk a)
  | 0xFF => whenLegal (c == 0 && b == 0 && a == 0) .rst
  | _ => none

/-- The command word `op:c:b:a` (R60). -/
def commandWord (op c b a : Nat) : Word := BitVec.ofNat 32 (op * 2 ^ 24 + c * 2 ^ 16 + b * 2 ^ 8 + a)

/-- The word of a command, from the rows of R62. -/
def encode : Instr → Word
  | .nop => commandWord 0x00 0 0 0
  | .rowpar rows cols ptype => commandWord 0x01 ptype.toNat cols rows
  | .colpar rows cols ptype => commandWord 0x02 ptype.toNat cols rows
  | .blkpar rows cols ptype => commandWord 0x03 ptype.toNat cols rows
  | .pulses => commandWord 0x10 0 0 0
  | .clksel clk => commandWord 0x11 0 0 clk
  | .lwfind => commandWord 0x12 0 0 0
  | .lwsync clk => commandWord 0x13 0 0 clk
  | .x50read clk => commandWord 0x20 0 0 clk
  | .x50code => commandWord 0x21 0 0 0
  | .x05dec addr readCmd => commandWord 0x30 readCmd.toNat 0 addr
  | .x05test readCmd => commandWord 0x31 readCmd.toNat 0 0
  | .psk2map => commandWord 0x32 0 0 0
  | .x05info => commandWord 0x33 0 0 0
  | .e410enc clk => commandWord 0x40 0 0 clk
  | .e410dec => commandWord 0x41 0 0 0
  | .e410wchk clk => commandWord 0x42 0 0 clk
  | .rst => commandWord 0xFF 0 0 0

/-- The match and mask of a command's row in R63, copied from the rule. -/
def matchMask : Instr → Word × Word
  | .nop => (0x00000000, 0xFFFFFFFF)
  | .rowpar _ _ _ => (0x01000000, 0xFFFE0000)
  | .colpar _ _ _ => (0x02000000, 0xFFFE0000)
  | .blkpar _ _ _ => (0x03000000, 0xFFFE0000)
  | .pulses => (0x10000000, 0xFFFFFFFF)
  | .clksel _ => (0x11000000, 0xFFFFFF00)
  | .lwfind => (0x12000000, 0xFFFFFFFF)
  | .lwsync _ => (0x13000000, 0xFFFFFF00)
  | .x50read _ => (0x20000000, 0xFFFFFF00)
  | .x50code => (0x21000000, 0xFFFFFFFF)
  | .x05dec _ _ => (0x30000000, 0xFFFEFF00)
  | .x05test _ => (0x31000000, 0xFFFEFFFF)
  | .psk2map => (0x32000000, 0xFFFFFFFF)
  | .x05info => (0x33000000, 0xFFFFFFFF)
  | .e410enc _ => (0x40000000, 0xFFFFFF00)
  | .e410dec => (0x41000000, 0xFFFFFFFF)
  | .e410wchk _ => (0x42000000, 0xFFFFFF00)
  | .rst => (0xFF000000, 0xFFFFFFFF)

/-- The host's view of the decoder: an instruction given as the `nbits` bits of a number. A command is one 32-bit word
and the port moves whole words, so there is no byte order to choose (20_memory.md R43). -/
def decodeTableWord (nbits w : Nat) : Option Instr := decode (BitVec.ofNat 32 (w % 2 ^ nbits))

end Sys2Proof
end

