-- ==== Sys2Proof/Machine/State.lean ====
section
/-! DEFINITION. The state of LFPV (10_state.md R10 to R27) as plain data, its state after reset (70_reset_and_hazards.md
R191), and the two types of reasons a step can stop. -/

namespace Sys2Proof.Machine

/-- The error kinds, in the order of their codes 0 to 11 (60_exceptions.md R170). -/
inductive ErrKind where
  | none
  | noClockFound
  | noSyncPattern
  | demodulatorFailed
  | preambleNotFound
  | parityFailed
  | bufferTooShort
  | timeout
  | invalidArgument
  | decodeFailed
  | illegalCommand
  | frameError
deriving DecidableEq, Repr

/-- STATUS, register 0x09 (R15). The register as one word is `Status.toWord`; its bits 31:11 read 0. -/
structure Status where
  err : ErrKind
  pass : Bool
  complete : Bool
  allPar : Bool
  found : Bool
  ptrunc : Bool
  idValid : Bool
  errSeen : Bool
deriving DecidableEq, Repr

/-- CFG, register 0x0A (R14). Bits 31:16 read 0. -/
structure Cfg where
  toldiv : Byte
  maxErr : Byte
deriving DecidableEq, Repr

/-- STAGE, register 0x32 (R16). Other bits read 0. -/
structure Stage where
  won : BitVec 4
  /-- Bit `s - 1` is TRIED of stage `s`. -/
  tried : BitVec 8
deriving DecidableEq, Repr

/-- A buffer of elements reached by index: the written elements in rising order of index (20_memory.md R40; log 10). -/
abbrev Memory (α : Type) := List (Nat × α)

/-- The transactions of the host (30_encoding.md R72). -/
inductive Transaction where
  | wr (reg : Nat) (v : Word)
  | rd (reg : Nat)
  | wrwave (i : Nat) (sample : Int)
  | rdwave (i : Nat)
  | wrbits (i v : Nat)
  | rdbits (i : Nat)
  | rdpulse (i : Nat)
deriving DecidableEq, Repr

/-- What may reach the block between two commands: a transaction, or the hardware reset input (70_reset_and_hazards.md
R190; log 13). -/
inductive HostEvent where
  | transaction (t : Transaction)
  | resetInput
deriving DecidableEq, Repr

/-- What a transaction returns to the host (R72, R73). -/
inductive Reply where
  /-- A write was taken, or ignored without error (R13), or the command it started has completed. -/
  | done
  /-- The value of a register, or the width of a pulse. -/
  | word (v : Word)
  | sample (v : Int)
  | bit (v : Bool)
  /-- The transaction was excluded by R73: nothing changed. -/
  | refused
deriving DecidableEq, Repr

/-- The state of the machine: the block's registers and buffers (R10), then what the spec calls parameters of the step
and the observer's record, which the model keeps in State because the type of a step is fixed (log 1, 3, 4, 5, 7). -/
structure State where
  /-- `x[0..3]`, numbers 0x00 to 0x03 (R12). -/
  x : Vector Word 4
  status : Status
  cfg : Cfg
  /-- RESP.VALID (R27). -/
  respValid : Bool
  wlen : Word
  wbase : Word
  blen : Word
  boff : Word
  plen : Word
  pidx : Word
  minw : Word
  skip0 : Word
  clk : Word
  tol : Word
  mkidx : Word
  mkph : Word
  mkpos : Word
  m1idx : Word
  m1ph : Word
  m2idx : Word
  nblk : Word
  /-- BLKPF, bits 31:6 read 0. -/
  blkpf : BitVec 6
  /-- BLK0 to BLK5. -/
  blk : Vector Word 6
  word : Word
  /-- ADDR, bits 31:4 read 0. -/
  addr : BitVec 4
  stage : Stage
  /-- STGERR: entry `s - 1` is the nibble of stage `s` (R17). -/
  stgerr : Vector ErrKind 8
  preoff : Word
  idlo : Word
  /-- IDHI, bits 31:8 read 0. -/
  idhi : Byte
  xlhi : Word
  chiptype : Word
  captype : Word
  custcode : Word
  serial : Word
  /-- WAVE (R20). -/
  wave : Memory Int
  /-- PULSE (R21). -/
  pulse : Memory Word
  /-- BITS (R22). -/
  bits : Memory Bool
  /-- The parameters of 00_scope.md R6. -/
  params : Params
  /-- How many resets this model has seen: the argument of the free contents of the buffers (log 10). -/
  epoch : Nat
  /-- Answers the demodulators have ready, oldest first (log 4). -/
  demodIn : List (Option (List Bool))
  /-- Answers the clock estimators have ready, oldest first (log 4). -/
  clockIn : List (Option PosClock)
  /-- The event history of oracle calls, oldest first (R36, R180; log 5). -/
  calls : List OracleCall
  /-- The events the host has still to issue, the next one first (R11, R72; log 1). -/
  pending : List HostEvent
  /-- The index into the host's list of transactions (R11). -/
  pc : Nat
  /-- What each transaction returned, oldest first (log 3). -/
  replies : List Reply
deriving DecidableEq, Repr

/-- Why a step can stop with a fault. The block itself has no traps (60_exceptions.md). -/
inductive Fault where
  /-- Raised by `step` alone, when State's parameters lie outside the ranges of R6: there is no such block, so the model
  says nothing about it. Safe: no step changes the parameters, and those of reset are in range (log 8). -/
  | impossibleParameters
deriving DecidableEq, Repr

/-- Why a step can refuse. -/
inductive Refusal where
  /-- An arm of `exec` whose command has no meaning yet. Safe: nothing is claimed about it. No arm answers so. -/
  | notModelled (mnemonic : String)
deriving DecidableEq, Repr

/-- The machine right after reset: R191. The fields that are not the block's are set as the log entries say. -/
def State.reset : State :=
  { x := Vector.replicate 4 0
    status :=
      { err := .none, pass := false, complete := false, allPar := false, found := false, ptrunc := false,
        idValid := false, errSeen := false }
    cfg := { toldiv := 8, maxErr := 0 }
    respValid := false
    wlen := 0, wbase := 0, blen := 0, boff := 0, plen := 0, pidx := 0
    minw := 0, skip0 := 0, clk := 0, tol := 0
    mkidx := 0, mkph := 0, mkpos := 0, m1idx := 0, m1ph := 0, m2idx := 0
    nblk := 0, blkpf := 0, blk := Vector.replicate 6 0
    word := 0, addr := 0, stage := { won := 0, tried := 0 }, stgerr := Vector.replicate 8 .none, preoff := 0
    idlo := 0, idhi := 0, xlhi := 0
    chiptype := 0, captype := 0, custcode := 0, serial := 0
    wave := [], pulse := [], bits := []
    params := Params.default
    epoch := 0, demodIn := [], clockIn := [], calls := []
    pending := [], pc := 0, replies := [] }

end Sys2Proof.Machine
end

