-- ==== Sys2Proof/Machine/Flags.lean ====
section
/-! DEFINITION. STATUS and its fields (10_state.md R15), the error codes (60_exceptions.md R170), and the other
registers that are made of fields, as the words the host reads. -/

namespace Sys2Proof.Machine

/-- The code of an error kind (R170). Codes 12 to 15 do not occur. -/
def ErrKind.code : ErrKind → Nat
  | .none => 0
  | .noClockFound => 1
  | .noSyncPattern => 2
  | .demodulatorFailed => 3
  | .preambleNotFound => 4
  | .parityFailed => 5
  | .bufferTooShort => 6
  | .timeout => 7
  | .invalidArgument => 8
  | .decodeFailed => 9
  | .illegalCommand => 10
  | .frameError => 11

/-- STATUS as the host reads it (R15): ERR 3:0, PASS 4, COMPLETE 5, ALLPAR 6, FOUND 7, PTRUNC 8, IDVALID 9,
ERRSEEN 10, bits 31:11 zero. -/
def Status.toWord (st : Status) : Word :=
  BitVec.ofNat 32 (st.err.code + st.pass.toNat * 2 ^ 4 + st.complete.toNat * 2 ^ 5 + st.allPar.toNat * 2 ^ 6 +
    st.found.toNat * 2 ^ 7 + st.ptrunc.toNat * 2 ^ 8 + st.idValid.toNat * 2 ^ 9 + st.errSeen.toNat * 2 ^ 10)

/-- The STATUS part of `raise K` (R172). -/
def Status.raise (st : Status) (k : ErrKind) : Status := { st with err := k, pass := false, errSeen := true }

/-- The STATUS part of `done(p)` (R173). -/
def Status.done (st : Status) (p : Bool) : Status := { st with err := .none, pass := p }

/-- CFG as the host reads it (R14): TOLDIV 7:0, MAXERR 15:8, bits 31:16 zero. -/
def Cfg.toWord (c : Cfg) : Word := BitVec.ofNat 32 (c.maxErr.toNat * 2 ^ 8 + c.toldiv.toNat)

/-- What a host write leaves in CFG: bits 31:16 are ignored (R13, R14). -/
def Cfg.ofWord (v : Word) : Cfg := { toldiv := v.extractLsb' 0 8, maxErr := v.extractLsb' 8 8 }

/-- RESP as the host reads it (R27): VALID is bit 0, bits 31:1 zero. -/
def respWord (valid : Bool) : Word := if valid then 1 else 0

/-- STAGE as the host reads it (R16): WON 3:0, TRIED 15:8, other bits zero. -/
def Stage.toWord (g : Stage) : Word := BitVec.ofNat 32 (g.tried.toNat * 2 ^ 8 + g.won.toNat)

/-- STGERR as the host reads it (R17): nibble `s - 1` is the code of stage `s`. -/
def stgerrWord (v : Vector ErrKind 8) : Word :=
  BitVec.ofNat 32 (v.toList.foldr (fun k acc => acc * 2 ^ 4 + k.code) 0)

end Sys2Proof.Machine
end

