-- ==== Sys2Proof/Machine/Ops.lean ====
section
/-! DEFINITION. The shared operations: reading and writing the buffers (20_memory.md R40 to R42), ending a command
(60_exceptions.md R172, R173), calling a collaborator (10_state.md R30), and reset (70_reset_and_hazards.md R191). -/

namespace Sys2Proof.Machine

/-! ### Buffers -/

namespace Memory

variable {α : Type}

/-- The canonical form: indices strictly rising. An unlisted index has no value of its own, so no listed entry can
equal what an unlisted index reads as (log 10). -/
abbrev wf (m : Memory α) : Prop := (m.map Prod.fst).Pairwise (· < ·)

/-- The part of a buffer at index `i` and above. -/
def dropBelow (m : Memory α) (i : Nat) : Memory α := m.dropWhile (·.1 < i)

/-- The written value of element `i`, if there is one. -/
def read? (m : Memory α) (i : Nat) : Option α :=
  match dropBelow m i with
  | [] => none
  | (k, v) :: _ => if k = i then some v else none

/-- Elements `i`, `i + 1`, ..., `i + n - 1`, with `free` for those nothing has written. It walks the buffer once;
`Laws.slice_eq_map` says it is the element reads in order. -/
def slice (free : Nat → α) (m : Memory α) (i : Nat) : Nat → List α
  | 0 => []
  | n + 1 => ((read? m i).getD (free i)) :: slice free (dropBelow m i) (i + 1) n

/-- `vs` as the elements from index `i` on. -/
def cells (i : Nat) : List α → Memory α
  | [] => []
  | v :: vs => (i, v) :: cells (i + 1) vs

/-- Store `vs` at elements `i`, `i + 1`, ... -/
def write (m : Memory α) (i : Nat) (vs : List α) : Memory α :=
  m.takeWhile (·.1 < i) ++ cells i vs ++ dropBelow m (i + vs.length)

end Memory

/-- A sample lies in the range of SAMPLE_W, when that parameter is fixed: a signed number of that width (00_scope.md R6,
30_encoding.md R73; log 11). -/
def sampleFits (width : Option Nat) (v : Int) : Bool :=
  match width with
  | none => true
  | some w => -(2 ^ (w - 1) : Int) ≤ v && v < (2 ^ (w - 1) : Int)

/-- A free value as a sample (R6): every sample in the range of SAMPLE_W is reached and none outside it. -/
def freeInRange (width : Option Nat) (v : Int) : Int :=
  match width with
  | none => v
  | some w => v.bmod (2 ^ w)

/-- Element `i` of WAVE where nothing has written it since the last reset: free, in the range of SAMPLE_W (log 10). -/
def State.freeSample (s : State) (i : Nat) : Int := freeInRange s.params.sampleWidth (Config.freeSample s.epoch i)

/-- MemRead(WAVE, i): a free sample where nothing has written since the last reset (R20, W1; log 10). -/
def State.waveAt (s : State) (i : Nat) : Int := (Memory.read? s.wave i).getD (s.freeSample i)

/-- MemRead(PULSE, i) (R21). -/
def State.pulseAt (s : State) (i : Nat) : Word := (Memory.read? s.pulse i).getD (Config.freeWidth s.epoch i)

/-- MemRead(BITS, i) (R22). -/
def State.bitAt (s : State) (i : Nat) : Bool := (Memory.read? s.bits i).getD (Config.freeBit s.epoch i)

/-- `WAVE[a..b)` (00_scope.md R7). -/
def State.waveRange (s : State) (a b : Nat) : List Int :=
  Memory.slice s.freeSample s.wave a (b - a)

/-- `BITS[a..b)` (R7). -/
def State.bitRange (s : State) (a b : Nat) : List Bool :=
  Memory.slice (Config.freeBit s.epoch) s.bits a (b - a)

/-- `PULSE[a..b)` (R7). -/
def State.pulseRange (s : State) (a b : Nat) : List Word :=
  Memory.slice (Config.freeWidth s.epoch) s.pulse a (b - a)

/-- `WAVE[i], WAVE[i+1], ... <- vs`. -/
def State.writeWave (s : State) (i : Nat) (vs : List Int) : State := { s with wave := Memory.write s.wave i vs }

/-- `PULSE[i], PULSE[i+1], ... <- vs`. -/
def State.writePulse (s : State) (i : Nat) (vs : List Word) : State := { s with pulse := Memory.write s.pulse i vs }

/-- `BITS[i], BITS[i+1], ... <- vs`. -/
def State.writeBits (s : State) (i : Nat) (vs : List Bool) : State := { s with bits := Memory.write s.bits i vs }

/-- An exact number stored in a 32-bit register is kept modulo 2^32 (R12; log 18). -/
def toReg (n : Nat) : Word := BitVec.ofNat 32 n

/-! ### Ending a command -/

/-- `raise K`: the error entry (R172). Only STATUS changes; nothing is undone, saved or vectored. There is no return
from it (R174): the next command starts from the state this leaves. -/
def State.raise (s : State) (k : ErrKind) : State := { s with status := s.status.raise k }

/-- `done(p)` (R173). -/
def State.done (s : State) (p : Bool) : State := { s with status := s.status.done p }

/-- A part of a command: the state it has reached, and the error that ended it there, if one did. -/
abbrev Progress := State × Option ErrKind

/-- Go on with the next part, unless an error ended this one. -/
def Progress.andThen (r : Progress) (next : State → Progress) : Progress :=
  match r with
  | (t, some k) => (t, some k)
  | (t, none) => next t

/-- End a command made of parts: `raise` the error that ended it, or `done` with the verdict read off the state. -/
def Progress.conclude (r : Progress) (verdict : State → Bool) : State :=
  match r with
  | (t, some k) => t.raise k
  | (t, none) => t.done (verdict t)

/-- A word that is no command (30_encoding.md R64): STATUS reports it, nothing else changes. -/
def State.illegalCommand (s : State) : State := s.raise .illegalCommand

/-! ### Calling a collaborator -/

/-- `WAVE[lo..hi)` as an argument of a call (R30). -/
def State.window (s : State) (lo hi : Nat) : Window := { lo := lo, hi := hi, samples := s.waveRange lo hi }

/-- Record a call in the event history (R36, R180; log 5). -/
def State.logCall (s : State) (c : OracleCall) : State := { s with calls := s.calls ++ [c] }

/-- `Call` a demodulator: `Fail` (none) or bits. The next answer it has ready is used; where there is none the answer
is free (R30, U7; log 4). Nothing of the block changes (R30). -/
def State.askDemod (s : State) (c : OracleCall) : Option (List Bool) × State :=
  match s.demodIn with
  | r :: rest => (r, { s.logCall c with demodIn := rest })
  | [] => (Config.demodAnswer s.calls.length c, s.logCall c)

/-- `Call` a clock estimator: `Fail` (none) or a positive integer (R32, R33; log 4). -/
def State.askClock (s : State) (c : OracleCall) : Option PosClock × State :=
  match s.clockIn with
  | r :: rest => (r, { s.logCall c with clockIn := rest })
  | [] => (Config.clockAnswer s.calls.length c, s.logCall c)

/-! ### Reset -/

/-- The effect of R191 on the block: every register at its reset value, buffer contents unspecified. The parameters,
the collaborators, the host's list and the record are not the block's and stay (R10; log 10, log 13). -/
def State.resetBlock (s : State) : State :=
  { State.reset with
    params := s.params, epoch := s.epoch + 1, demodIn := s.demodIn, clockIn := s.clockIn, calls := s.calls,
    pending := s.pending, pc := s.pc, replies := s.replies }

end Sys2Proof.Machine
end

