-- ==== Sys2Proof/Machine/Operands.lean ====
section
/-! DEFINITION. The constants of 00_scope.md R6, the operands that registers and buffers supply (30_encoding.md R61),
the functional parameters, and the sums that pack bits into numbers (20_memory.md R43). -/

namespace Sys2Proof.Machine

/-! ### Constants (R6) -/

/-- CAND, ascending. -/
def candidates : List Nat := [8, 16, 32, 40, 50, 64, 128]

/-- NBLKMAX. -/
def maxBlocks : Nat := 6

/-- BLKBITS, 5 rows by 9 columns. -/
def blockBits : Nat := 45

/-- PREAMBLE. -/
def preamble : List Bool := [false, false, true, false, true, false]

/-- NOFFS. -/
def preambleOffsets : Nat := 14

/-- WRCLK. -/
def writeClocks : List Nat := [16, 32, 40, 64]

/-- IDLIMIT. -/
def idLimit : Nat := 0x10000000000

/-! ### Operands from registers and buffers -/

/-- `id = x[1] : x[0]` (R61). -/
def State.id64 (s : State) : Nat := s.x[1].toNat * 2 ^ 32 + s.x[0].toNat

/-- `BITS[BOFF..BLEN)`. -/
def State.visibleBits (s : State) : List Bool := s.bitRange s.boff.toNat s.blen.toNat

/-- BOFF > BLEN: the visible part of BITS does not exist. -/
def State.bitsMissing (s : State) : Bool := s.blen.toNat < s.boff.toNat

/-- `WAVE[WBASE..WLEN)`, the waveform a command sees (R20). -/
def State.visibleWave (s : State) : List Int := s.waveRange s.wbase.toNat s.wlen.toNat

/-! ### Functional parameters (R6) -/

/-- `ThreshHi(mx, mn)`, default `mx` (R90). -/
def State.threshHi (s : State) (mx mn : Int) : Int :=
  match s.params.threshHi with
  | .standard => mx
  | .other k => Config.threshHi k mx mn

/-- `ThreshLo(mx, mn)`, default `mn` (R90). -/
def State.threshLo (s : State) (mx mn : Int) : Int :=
  match s.params.threshLo with
  | .standard => mn
  | .other k => Config.threshLo k mx mn

/-- `PulseShape(bit, clk, t)`, default Manchester: the complement in the first half, the bit in the second (R153). -/
def State.pulseShape (s : State) (bit : Bool) (clk t : Nat) : Int :=
  match s.params.pulseShape with
  | .standard => if t < clk / 2 then ((!bit).toNat : Int) else (bit.toNat : Int)
  | .other k => Config.pulseShape k bit clk t

/-- `Psk1ToPsk2(T)`, default the transition map (R131). Whatever the function, the output has the input's length. -/
def State.psk1ToPsk2 (s : State) (bs : List Bool) : List Bool :=
  match s.params.psk2map with
  | .standard => List.zipWith (fun a b => a ^^ b) bs (false :: bs)
  | .other k => (List.range bs.length).map (Config.psk2Bit k bs)

/-- `ChipInfoOf(word0, word1)`, default the positions of R140. -/
def State.chipInfoOf (s : State) (word0 word1 : Word) : ChipInfo :=
  match s.params.chipInfo with
  | .standard =>
    { chipType := (word0 >>> 1) &&& 0xF, capType := (word0 >>> 5) &&& 0x3, custCode := (word0 >>> 9) &&& 0x3FF,
      serial := word1 }
  | .other k => Config.chipInfo k word0 word1

/-! ### Sums over bits -/

/-- `sum over k = 0 .. n-1 of f(k)`. -/
def sumTo (n : Nat) (f : Nat → Nat) : Nat := (List.range n).foldl (fun acc k => acc + f k) 0

/-- `XOR_{k=0}^{n-1} f(k)`; over an empty range it is 0 (R7). -/
def xorTo (n : Nat) (f : Nat → Bool) : Bool := (List.range n).foldl (fun acc k => acc ^^ f k) false

/-- Bit `i` of a sequence; every rule keeps `i` below the length. -/
def bitOf (bs : List Bool) (i : Nat) : Bool := bs.getD i false

/-- A bit as a number, at a position: `b << k`. -/
def bitAtPos (b : Bool) (k : Nat) : Nat := b.toNat * 2 ^ k

end Sys2Proof.Machine
end

