-- ==== Sys2Proof/Machine/Parity.lean ====
section
/-! DEFINITION. The Parity Validator (40_parity.md): NOP, the two parity functions, ROWPAR, COLPAR, BLKPAR. -/

namespace Sys2Proof.Machine

/-- The result of a parity function (R81): `True`, `False`, `Invalid`. -/
inductive Verdict where
  | holds
  | fails
  | invalid
deriving DecidableEq, Repr

/-- The XOR of all `cols` bits of row `r` (R83). -/
def rowXor (bs : List Bool) (cols r : Nat) : Bool := xorTo cols (fun c => bitOf bs (r * cols + c))

/-- The XOR down column `c` across all `rows` (R83). -/
def colXor (bs : List Bool) (rows cols c : Nat) : Bool := xorTo rows (fun r => bitOf bs (r * cols + c))

/-- `RowParityTest` over a sequence whose length is `len` (R82, R83): the last row is not checked. -/
def rowParityTest (bs : List Bool) (rows cols : Nat) (pt : Bool) : Verdict :=
  if bs.length < rows * cols then .invalid
  else if (List.range (rows - 1)).all (fun r => rowXor bs cols r == pt) then .holds
  else .fails

/-- `ColParityTest` (R82, R83): the last column is not checked. -/
def colParityTest (bs : List Bool) (rows cols : Nat) (pt : Bool) : Verdict :=
  if bs.length < rows * cols then .invalid
  else if (List.range (cols - 1)).all (fun c => colXor bs rows cols c == pt) then .holds
  else .fails

/-- Both tests (R86): invalid when the row test is (the column test then is too, R82), and valid only if both hold. -/
def blockParityTest (bs : List Bool) (rows cols : Nat) (pt : Bool) : Verdict :=
  match rowParityTest bs rows cols pt, colParityTest bs rows cols pt with
  | .invalid, _ => .invalid
  | .holds, .holds => .holds
  | _, _ => .fails

/-- A block is fully valid when both tests hold (R86); used by the decoders on 5 by 9 and 11 by 5 matrices. -/
def blockValid (bs : List Bool) (rows cols : Nat) : Bool :=
  rowParityTest bs rows cols false == .holds && colParityTest bs rows cols false == .holds

/-- The common body of the parity commands (R84 to R87): what the verdict of the test on the visible bits becomes. -/
def State.parityCommand (s : State) (rows cols : Nat) (v : Verdict) : State :=
  if rows = 0 ∨ cols = 0 then s.raise .invalidArgument
  else if s.bitsMissing then s.raise .bufferTooShort
  else match v with
    | .invalid => s.raise .bufferTooShort
    | .fails => s.raise .parityFailed
    | .holds => s.done true

/-- NOP (R80). -/
def execNop (s : State) : Host.Outcome State Fault Refusal := .next (s.done true)

/-- ROWPAR rows, cols, ptype (R84). -/
def execRowpar (rows cols : Nat) (ptype : Bool) (s : State) : Host.Outcome State Fault Refusal :=
  .next (s.parityCommand rows cols (rowParityTest s.visibleBits rows cols ptype))

/-- COLPAR rows, cols, ptype (R85). -/
def execColpar (rows cols : Nat) (ptype : Bool) (s : State) : Host.Outcome State Fault Refusal :=
  .next (s.parityCommand rows cols (colParityTest s.visibleBits rows cols ptype))

/-- BLKPAR rows, cols, ptype (R86). -/
def execBlkpar (rows cols : Nat) (ptype : Bool) (s : State) : Host.Outcome State Fault Refusal :=
  .next (s.parityCommand rows cols (blockParityTest s.visibleBits rows cols ptype))

end Sys2Proof.Machine
end

