-- ==== Sys2Proof/Machine/E410.lean ====
section
/-! DEFINITION. The Frame Codec EM410x (44_em410x_frame.md): E410ENC, E410DEC, E410WCHK. -/

namespace Sys2Proof.Machine

/-- Data bit `j` of nibble `n`: most significant nibble and most significant bit first (R152). -/
def idBit (id n j : Nat) : Bool := (id / 2 ^ (36 - 4 * n) % 16).testBit (3 - j)

/-- The row of nibble `n`: its four data bits and their XOR (R150, R152). -/
def frameRow (id n : Nat) : List Bool :=
  (List.range 4).map (idBit id n) ++ [xorTo 4 (idBit id n)]

/-- `Frame410(id)` (R152): nine ones, ten rows, four column parities, a stop bit 0. -/
def frame410 (id : Nat) : List Bool :=
  List.replicate 9 true ++ (List.range 10).flatMap (frameRow id) ++
    (List.range 4).map (fun j => xorTo 10 (fun n => idBit id n j)) ++ [false]

/-- The sample WAVE holds after the block stores the value `v`: `v` itself where it fits SAMPLE_W. The spec states no
result where it does not, so that one sample is free (R6, R151; log 17). -/
def State.storedSample (s : State) (v : Int) : Int :=
  let width := s.params.sampleWidth
  if sampleFits width v then v else freeInRange width (Config.unfitSample width v)

/-- The samples of a frame: each bit becomes `clk` samples (R151, R153). -/
def State.frameSamples (s : State) (clk : Nat) (frame : List Bool) : List Int :=
  frame.flatMap (fun b => (List.range clk).map (fun i => s.storedSample (s.pulseShape b clk i)))

/-- E410ENC clk (R151). -/
def execE410enc (clk : Nat) (s : State) : Host.Outcome State Fault Refusal :=
  if idLimit ≤ s.id64 then .next (s.raise .invalidArgument)
  else if clk ∉ candidates then .next (s.raise .invalidArgument)
  else if s.params.wmax < 64 * clk then .next (s.raise .bufferTooShort)
  else
    let frame := frame410 s.id64
    let t := { s with blen := 64, boff := 0, wlen := toReg (64 * clk), wbase := 0 }
    .next (((t.writeBits 0 frame).writeWave 0 (s.frameSamples clk frame)).done true)

/-- The ID in a frame (R156): `sum of f[9 + 5n + j] << (39 - 4n - j)`. -/
def frameId (f : List Bool) : Nat :=
  sumTo 10 (fun n => sumTo 4 (fun j => bitAtPos (bitOf f (9 + 5 * n + j)) (39 - 4 * n - j)))

/-- STATUS.FOUND and STATUS.IDVALID. -/
def State.setReport (s : State) (found idValid : Bool) : State :=
  { s with status := { s.status with found := found, idValid := idValid } }

/-- E410DEC (R156, R158): the XL report, then length, header, stop bit, row parity, column parity. -/
def execE410dec (s : State) : Host.Outcome State Fault Refusal :=
  let t := s.setReport false false
  let f := s.visibleBits.take 64
  if s.xlhi ≠ 0 then .next ((s.setReport true false).done true)
  else if s.bitsMissing ∨ f.length < 64 then .next (t.raise .bufferTooShort)
  else if f.take 9 ≠ List.replicate 9 true then .next (t.raise .frameError)
  else if bitOf f 63 then .next (t.raise .frameError)
  else if rowParityTest (f.drop 9) 11 5 false ≠ .holds then .next (t.raise .parityFailed)
  else if colParityTest (f.drop 9) 11 5 false ≠ .holds then .next (t.raise .parityFailed)
  else
    .next (({ s with
      idlo := toReg (frameId f)
      idhi := BitVec.ofNat 8 (frameId f / 2 ^ 32) }.setReport true true).done true)

/-- E410WCHK clk (R160). -/
def execE410wchk (clk : Nat) (s : State) : Host.Outcome State Fault Refusal :=
  if clk ∉ writeClocks then .next (s.raise .invalidArgument)
  else if idLimit ≤ s.id64 then .next (s.raise .invalidArgument)
  else .next (s.done true)

end Sys2Proof.Machine
end

