-- ==== Sys2Proof/Machine/System.lean ====
section
/-! DEFINITION. RST (70_reset_and_hazards.md R192) and the hardware reset input (R190). -/

namespace Sys2Proof.Machine

/-- RST (R192): the effect of R191; all of STATUS is 0 afterwards, so it does not end with `done`. -/
def execRst (s : State) : Host.Outcome State Fault Refusal := .next s.resetBlock

/-- The hardware reset input has the effect of R191 and no other (R190). -/
def State.hardwareReset (s : State) : State := s.resetBlock

end Sys2Proof.Machine
end

