-- ==== Sys2Proof/Machine/X05.lean ====
section
/-! DEFINITION. The Scheme Cascade Decoder EM4x05/EM4x69 (43_em4x05_cascade.md): X05DEC, X05TEST, PSK2MAP, X05INFO. -/

namespace Sys2Proof.Machine

/-- `FindPreamble` (R126): the lowest of the offsets 0 to 13 where all six preamble bits stand. -/
def findPreamble (bs : List Bool) : Option Nat :=
  (List.range preambleOffsets).find? (fun o => (bs.drop o).take 6 == preamble)

/-- The 32 payload bits of a 5 by 9 block, parity stripped (R133): `payload[8*r + k] = block[9*r + k]`. -/
def payloadOf (block : List Bool) : List Bool :=
  (List.range 32).map (fun n => bitOf block (9 * (n / 8) + n % 8))

/-- `Test05` (R133): the preamble offset and, for a read command, the payload. -/
def test05 (bs : List Bool) (readCmd : Bool) : Except ErrKind (Nat × Option (List Bool)) :=
  match findPreamble bs with
  | none => .error .preambleNotFound
  | some o =>
    if readCmd then
      let block := (bs.drop (o + 6)).take blockBits
      if block.length < blockBits then .error .bufferTooShort
      else if blockValid block 5 9 then .ok (o, some (payloadOf block))
      else .error .parityFailed
    else .ok (o, none)

/-- `Word05` (R135): the first payload bit is bit 0. -/
def word05 (p : List Bool) : Word := toReg (sumTo 32 (fun n => bitAtPos (bitOf p n) n))

/-- What a validated read leaves (R127, R133): the payload in BITS[0..32) and the word. -/
def State.storePayload (s : State) (payload : List Bool) : State :=
  ({ s with blen := 32, boff := 0, word := word05 payload }).writeBits 0 payload

/-! ### X05DEC -/

/-- The eight schemes of the cascade (R127). -/
inductive Scheme where
  | fsk
  | psk1
  | psk2
  | psk1Inverted
  | psk2Inverted
  | askManchester
  | askBiphase
  | askDiphase
deriving DecidableEq, Repr

/-- The stage number of a scheme, 1 to 8 (R127). -/
def Scheme.number : Scheme → Nat
  | .fsk => 1
  | .psk1 => 2
  | .psk2 => 3
  | .psk1Inverted => 4
  | .psk2Inverted => 5
  | .askManchester => 6
  | .askBiphase => 7
  | .askDiphase => 8

/-- The fixed priority order (R127). -/
def cascadeOrder : List Scheme :=
  [.fsk, .psk1, .psk2, .psk1Inverted, .psk2Inverted, .askManchester, .askBiphase, .askDiphase]

/-- STAGE.TRIED[s] <- 1 (R16, R127). -/
def State.markTried (s : State) (sch : Scheme) : State :=
  { s with stage := { s.stage with tried := s.stage.tried ||| (1#8 <<< (sch.number - 1)) } }

/-- STGERR.nibble[s] <- k (R17, R127). -/
def State.stageError (s : State) (sch : Scheme) (k : ErrKind) : State :=
  { s with stgerr := s.stgerr.setIfInBounds (sch.number - 1) k }

/-- An estimator call, and a demodulator call with the clock it found (R127, R130): no call when it failed. -/
def State.estimateThenDemod (s : State) (estimate : OracleCall) (demod : Nat → OracleCall) :
    Option (List Bool) × State :=
  match s.askClock estimate with
  | (none, t) => (none, t)
  | (some k, t) => t.askDemod (demod k.val)

/-- The bit sequence of a stage by the table of R127. `parent` is what the demodulator of the last PSK1 stage returned:
stage 2's for stage 3, stage 4's for stage 5. -/
def State.stageBits (s : State) (sch : Scheme) (w : Window) (parent : Option (List Bool)) :
    Option (List Bool) × State :=
  match sch with
  | .fsk => s.estimateThenDemod (.estimateFskClock w) (.demodFsk w)
  | .psk1 => s.estimateThenDemod (.estimatePskClock w) (fun k => .demodPsk w k 1 false)
  | .psk2 => (parent.map s.psk1ToPsk2, s)
  | .psk1Inverted => s.estimateThenDemod (.estimatePskClock w) (fun k => .demodPsk w k 1 true)
  | .psk2Inverted => (parent.map s.psk1ToPsk2, s)
  | .askManchester => s.askDemod (.demodAsk .manchester w 0 false s.cfg.maxErr.toNat)
  | .askBiphase => s.askDemod (.demodAsk .biphase w 0 false s.cfg.maxErr.toNat)
  | .askDiphase => s.askDemod (.demodAsk .biphase w 0 true s.cfg.maxErr.toNat)

/-- What the first stage that validates leaves (R127): PREOFF, WON, and the payload of a read or the stage's own bits,
cut to the capacity of BITS, for a write acknowledgement. -/
def State.stageWins (s : State) (sch : Scheme) (bs : List Bool) (o : Nat) (payload : Option (List Bool)) : State :=
  let t := { s with preoff := toReg o, stage := { s.stage with won := BitVec.ofNat 4 sch.number } }
  match payload with
  | some p => t.storePayload p
  | none =>
    ({ t with blen := toReg (min bs.length s.params.bmax), boff := 0 }).writeBits 0 (bs.take s.params.bmax)

/-- The cascade over the stages still to try (R127, R128): a stage that fails in any way is noted in STGERR and the
next is tried; the first that validates ends it. -/
def State.cascade (w : Window) (readCmd : Bool) : List Scheme → Option (List Bool) → State → Progress
  | [], _, s => (s, some .decodeFailed)
  | sch :: rest, parent, s =>
    let answer := (s.markTried sch).stageBits sch w parent
    match answer with
    | (none, t) => State.cascade w readCmd rest none (t.stageError sch .demodulatorFailed)
    | (some bs, t) =>
      if bs.length = 0 then State.cascade w readCmd rest (some bs) (t.stageError sch .demodulatorFailed)
      else match test05 bs readCmd with
        | .error k => State.cascade w readCmd rest (some bs) (t.stageError sch k)
        | .ok (o, payload) => (t.stageWins sch bs o payload, none)

/-- X05DEC up to its end (R127, R129). -/
def State.decode05 (s : State) (addr : Nat) (readCmd : Bool) : Progress :=
  let t := { s with stage := { won := 0, tried := 0 }, stgerr := Vector.replicate 8 .none }
  if 15 < addr then (t, some .invalidArgument)
  else
    let u := { t with addr := BitVec.ofNat 4 addr }
    if !s.respValid then (u, some .timeout)
    else if s.wlen.toNat ≤ s.wbase.toNat then (u, some .bufferTooShort)
    else State.cascade (s.window s.wbase.toNat s.wlen.toNat) readCmd cascadeOrder none u

/-- X05DEC addr, readCmd (R127). -/
def execX05dec (addr : Nat) (readCmd : Bool) (s : State) : Host.Outcome State Fault Refusal :=
  .next ((s.decode05 addr readCmd).conclude (fun _ => true))

/-! ### The other commands -/

/-- X05TEST readCmd (R133). -/
def execX05test (readCmd : Bool) (s : State) : Host.Outcome State Fault Refusal :=
  if s.bitsMissing then .next (s.raise .bufferTooShort)
  else match test05 s.visibleBits readCmd with
    | .error k => .next (s.raise k)
    | .ok (o, none) => .next ({ s with preoff := toReg o }.done true)
    | .ok (o, some p) => .next (({ s with preoff := toReg o }.storePayload p).done true)

/-- PSK2MAP (R131). -/
def execPsk2map (s : State) : Host.Outcome State Fault Refusal :=
  if s.bitsMissing then .next (s.raise .bufferTooShort)
  else .next ((s.writeBits s.boff.toNat (s.psk1ToPsk2 s.visibleBits)).done true)

/-- X05INFO (R140). -/
def execX05info (s : State) : Host.Outcome State Fault Refusal :=
  let c := s.chipInfoOf s.x[0] s.x[1]
  .next ({ s with chiptype := c.chipType, captype := c.capType, custcode := c.custCode, serial := c.serial }.done true)

end Sys2Proof.Machine
end

