-- ==== Sys2Proof/Machine/ClockWindow.lean ====
section
/-! DEFINITION. Clock and Window Recovery (41_clock_window.md): PULSES, CLKSEL, LWFIND, LWSYNC. -/

namespace Sys2Proof.Machine

/-! ### Steps 1 to 3: pulses (R90 to R93) -/

/-- `while i < N and p(WAVE[i]): i <- i + 1`, over the samples from index `i` on; the index reached and the samples
from there. -/
def skipWhile (p : Int → Bool) (i : Nat) : List Int → Nat × List Int
  | [] => (i, [])
  | w :: ws => if p w then skipWhile p (i + 1) ws else (i, w :: ws)

/-- To the first high sample, then to the first low sample after it (R91, R92). -/
def nextLow (hi lo : Int) (i : Nat) (ws : List Int) : Nat × List Int :=
  let high := skipWhile (fun w => w < hi) i ws
  skipWhile (fun w => lo < w) high.1 high.2

/-- The capture loop of R92 from sample index `i`, with the widths recorded so far; the result is all recorded widths
and whether the capture stopped because PULSE was full. With `LO < HI` every turn passes at least one sample, so the
number of samples is enough fuel. -/
def captureLoop (hi lo : Int) (pmax : Nat) : Nat → Nat → List Int → List Nat → List Nat × Bool
  | 0, _, _, widths => (widths, false)
  | fuel + 1, i, ws, widths =>
    match ws with
    | [] => (widths, false)
    | _ :: _ =>
      let q := nextLow hi lo i ws
      match q.2 with
      | [] => (widths, false)
      | _ :: _ =>
        if widths.length = pmax then (widths, true)
        else captureLoop hi lo pmax fuel q.1 q.2 (widths ++ [q.1 - i])

/-- MINW as R92 tracks it: 0 until a width is recorded, then the least. -/
def trackMin (widths : List Nat) : Nat := widths.foldl (fun m w => if m = 0 ∨ w < m then w else m) 0

/-- The registers PULSES clears before anything else (R92). -/
def State.clearCapture (s : State) : State :=
  { s with plen := 0, minw := 0, skip0 := 0, status := { s.status with ptrunc := false } }

/-- PULSES up to its end (R92): what it writes, and `BufferTooShort` when no sample is visible. -/
def State.capture (s : State) : Progress :=
  let t := s.clearCapture
  match s.visibleWave with
  | [] => (t, some .bufferTooShort)
  | w :: ws =>
    let mx := ws.foldl max w
    let mn := ws.foldl min w
    let hi := s.threshHi mx mn
    let lo := s.threshLo mx mn
    if hi ≤ lo then ({ t with skip0 := s.wlen }, none)
    else
      let first := nextLow hi lo s.wbase.toNat (w :: ws)
      let r := captureLoop hi lo s.params.pmax (w :: ws).length first.1 first.2 []
      (({ t with
          skip0 := toReg first.1
          plen := toReg r.1.length
          minw := toReg (trackMin r.1)
          status := { t.status with ptrunc := r.2 } }).writePulse 0 (r.1.map toReg), none)

/-- PULSES (R92): PASS is 1 when a pulse was recorded. -/
def execPulses (s : State) : Host.Outcome State Fault Refusal :=
  .next (s.capture.conclude (fun t => decide (0 < t.plen.toNat)))

/-! ### Step 4: the clock (R94 to R97) -/

/-- `p - p/TOLDIV <= MINW <= p + 1` (R94). The quotient never exceeds `p`. -/
def inWindow (toldiv minw p : Nat) : Bool := p - p / toldiv ≤ minw && minw ≤ p + 1

/-- The smallest candidate whose window holds MINW (R94, R96). -/
def searchClock (toldiv minw : Nat) : Option Nat := candidates.find? (inWindow toldiv minw)

/-- CLK <- p; TOL <- p / TOLDIV (R24, R94). -/
def State.setClock (s : State) (p : Nat) : State :=
  { s with clk := toReg p, tol := toReg (p / s.cfg.toldiv.toNat) }

/-- CLKSEL up to its end (R94). -/
def State.chooseClock (s : State) (clk : Nat) : Progress :=
  let t := { s with clk := 0, tol := 0 }
  if s.cfg.toldiv = 0 then (t, some .invalidArgument)
  else if clk ≠ 0 then
    if clk ∈ candidates then (t.setClock clk, none) else (t, some .invalidArgument)
  else if s.plen = 0 then (t, some .noClockFound)
  else match searchClock s.cfg.toldiv.toNat s.minw.toNat with
    | some p => (t.setClock p, none)
    | none => (t, some .noClockFound)

/-- CLKSEL clk (R94). -/
def execClksel (clk : Nat) (s : State) : Host.Outcome State Fault Refusal :=
  .next ((s.chooseClock clk).conclude (fun _ => true))

/-! ### Step 5: listen-window markers (R98 to R103) -/

/-- The four widths of the listen-window pattern (R98), on exact integers. -/
def matchWidths (clk tol w0 w1 w2 w3 : Nat) : Bool :=
  3 * clk ≤ w0 + tol && w0 ≤ 3 * clk + tol && 2 * clk ≤ w1 + tol && w1 ≤ 2 * clk + tol &&
    3 * clk ≤ w2 + tol && w2 ≤ 3 * clk + tol && clk ≤ w3 + tol

/-- The lowest index of a match in the widths from index `i` on (R100); only indices with four widths are tried. -/
def scanWidths (clk tol : Nat) (i : Nat) : List Word → Option Nat
  | w0 :: w1 :: w2 :: w3 :: ws =>
    if matchWidths clk tol w0.toNat w1.toNat w2.toNat w3.toNat then some i
    else scanWidths clk tol (i + 1) (w1 :: w2 :: w3 :: ws)
  | _ => none

/-- The lowest `i >= start` with `i + 3 < PLEN` and `Match4(i)` (R98, R100, R103). -/
def State.findMarker (s : State) (start : Nat) : Option Nat :=
  scanWidths s.clk.toNat s.tol.toNat start (s.pulseRange start s.plen.toNat)

/-- The phase offset of a marker at index `i`: what its fourth pulse has beyond one clock, clamped at 0 (R99). -/
def State.phaseAt (s : State) (i : Nat) : Nat := (s.pulseAt (i + 3)).toNat - s.clk.toNat

/-- `pos(k)`, the sample index where pulse `k` starts (10_state.md R23). -/
def State.pos (s : State) (k : Nat) : Nat :=
  (s.pulseRange 0 k).foldl (fun acc w => acc + w.toNat) s.skip0.toNat

/-- STATUS.FOUND <- v. -/
def State.setFound (s : State) (v : Bool) : State := { s with status := { s.status with found := v } }

/-- LWFIND (R100). -/
def execLwfind (s : State) : Host.Outcome State Fault Refusal :=
  let t := s.setFound false
  if s.clk = 0 then .next (t.raise .noClockFound)
  else match s.findMarker s.pidx.toNat with
    | none => .next (t.raise .noSyncPattern)
    | some i =>
      .next (({ t with
        mkidx := toReg i
        mkph := toReg (s.phaseAt i)
        mkpos := toReg (s.pos i)
        pidx := toReg (i + 4) }.setFound true).done true)

/-- STATUS.COMPLETE <- v. -/
def State.setComplete (s : State) (v : Bool) : State := { s with status := { s.status with complete := v } }

/-- The markers of LWSYNC, once pulses and clock are there (R103). -/
def State.syncMarkers (s : State) : Progress :=
  match s.findMarker 0 with
  | none => (s, some .noSyncPattern)
  | some first =>
    let t := { s with m1idx := toReg first, m1ph := toReg (s.phaseAt first) }
    match s.findMarker (first + 4) with
    | none => ({ t with pidx := toReg (first + 4) }, none)
    | some term => (({ t with m2idx := toReg term, pidx := toReg (term + 4) }).setComplete true, none)

/-- LWSYNC up to its end (R103): PULSES, CLKSEL, then the markers; the first error ends it. -/
def State.sync (s : State) (clk : Nat) : Progress :=
  (((s.setComplete false).capture).andThen (fun t => t.chooseClock clk)).andThen State.syncMarkers

/-- LWSYNC clk (R103). -/
def execLwsync (clk : Nat) (s : State) : Host.Outcome State Fault Refusal :=
  .next ((s.sync clk).conclude (fun _ => true))

end Sys2Proof.Machine
end

