-- ==== Sys2Proof/Machine/X50.lean ====
section
/-! DEFINITION. The Block Decoder EM4x50 (42_em4x50_block.md): X50READ, X50CODE. -/

namespace Sys2Proof.Machine

/-- `Code50` (R118): four data bytes, most significant byte and most significant bit first; parity bits are left out. -/
def code50 (bs : List Bool) : Word :=
  toReg (sumTo 4 (fun r => sumTo 8 (fun k => bitAtPos (bitOf bs (9 * r + k)) (31 - 8 * r - k))))

/-- `DataStart(m, ph)` (R111). -/
def State.dataStart (s : State) (m ph : Nat) : Nat := s.pos (m + 3) + s.clk.toNat + ph

/-- Store block `b`, whose 45 bits are `bs` (R112, R115): the code whatever the parity, the flag, and the counts. -/
def State.storeBlock (s : State) (b : Nat) (bs : List Bool) : State :=
  let p := blockValid bs 5 9
  ({ s with
    blen := 45
    boff := 0
    blk := s.blk.setIfInBounds b (code50 bs)
    blkpf := if p then s.blkpf ||| (1#6 <<< b) else s.blkpf
    nblk := toReg (b + 1)
    status := { s.status with allPar := s.status.allPar && p } }).writeBits 0 bs

/-- The block loop of R112 with `n` turns left, at block `b`, after the marker `prev` with phase `ph`, scanning from
pulse `cur`. -/
def State.readBlocks : Nat → Nat → Nat → Nat → Nat → State → Progress
  | 0, _, _, _, cur, s => ({ s with pidx := toReg cur }, none)
  | n + 1, b, prev, ph, cur, s =>
    match s.findMarker cur with
    | none => ({ s with pidx := toReg cur }, none)
    | some j =>
      let ds := s.dataStart prev ph
      let be := s.pos j
      if be ≤ ds then (s, some .bufferTooShort)
      else
        let t := { s with wbase := toReg ds }
        let answer := t.askDemod (.demodAsk .manchester (t.window ds be) t.clk.toNat false t.cfg.maxErr.toNat)
        match answer with
        | (none, u) => (u, some .demodulatorFailed)
        | (some bs, u) =>
          if bs.length = 0 then (u, some .demodulatorFailed)
          else if bs.length < blockBits then (u, some .bufferTooShort)
          else State.readBlocks n (b + 1) j (s.phaseAt j) (j + 4) (u.storeBlock b (bs.take blockBits))

/-- What X50READ sets before it synchronises (R112). -/
def State.clearBlocks (s : State) : State :=
  { s with nblk := 0, blkpf := 0, status := { s.status with allPar := true } }

/-- X50READ up to its end (R112): LWSYNC, then up to six blocks. -/
def State.readAll (s : State) (clk : Nat) : Progress :=
  (s.clearBlocks.sync clk).andThen
    (fun t => State.readBlocks maxBlocks 0 t.m1idx.toNat t.m1ph.toNat (t.m1idx.toNat + 4) t)

/-- X50READ clk (R112): PASS is 1 when at least one block was decoded. -/
def execX50read (clk : Nat) (s : State) : Host.Outcome State Fault Refusal :=
  .next ((s.readAll clk).conclude (fun t => decide (1 ≤ t.nblk.toNat)))

/-- X50CODE (R118). -/
def execX50code (s : State) : Host.Outcome State Fault Refusal :=
  if s.bitsMissing ∨ s.visibleBits.length < blockBits then .next (s.raise .bufferTooShort)
  else .next ({ s with word := code50 (s.visibleBits.take blockBits) }.done true)

end Sys2Proof.Machine
end

