-- ==== Sys2Proof/Machine/Dispatch.lean ====
section
/-! DEFINITION. The effect of each command (30_encoding.md R62), one arm per constructor. -/

namespace Sys2Proof.Machine

def exec (i : Instr) (s : State) : Host.Outcome State Fault Refusal :=
  match i with
  | .nop => Sys2Proof.Machine.execNop s
  | .rowpar rows cols ptype => Sys2Proof.Machine.execRowpar rows cols ptype s
  | .colpar rows cols ptype => Sys2Proof.Machine.execColpar rows cols ptype s
  | .blkpar rows cols ptype => Sys2Proof.Machine.execBlkpar rows cols ptype s
  | .pulses => Sys2Proof.Machine.execPulses s
  | .clksel clk => Sys2Proof.Machine.execClksel clk s
  | .lwfind => Sys2Proof.Machine.execLwfind s
  | .lwsync clk => Sys2Proof.Machine.execLwsync clk s
  | .x50read clk => Sys2Proof.Machine.execX50read clk s
  | .x50code => Sys2Proof.Machine.execX50code s
  | .x05dec addr readCmd => Sys2Proof.Machine.execX05dec addr readCmd s
  | .x05test readCmd => Sys2Proof.Machine.execX05test readCmd s
  | .psk2map => Sys2Proof.Machine.execPsk2map s
  | .x05info => Sys2Proof.Machine.execX05info s
  | .e410enc clk => Sys2Proof.Machine.execE410enc clk s
  | .e410dec => Sys2Proof.Machine.execE410dec s
  | .e410wchk clk => Sys2Proof.Machine.execE410wchk clk s
  | .rst => Sys2Proof.Machine.execRst s

end Sys2Proof.Machine
end

