-- ==== Sys2Proof/Machine/HostPort.lean ====
section
/-! DEFINITION. The host port: the register map (10_state.md R12, R13; 20_memory.md R48), the transactions and their
refusals (30_encoding.md R72, R73), the pseudo-transactions (R75), and what one event does. -/

namespace Sys2Proof.Machine

/-- The number of CMD: a write to it executes a command (R13, R60). -/
def cmdNumber : Nat := 0x08

/-- RD (R72): the value of a register. CMD and every number the map does not name read 0 (R13, R48; log 12). -/
def State.readReg (s : State) (n : Nat) : Word :=
  match n with
  | 0x00 => s.x[0]
  | 0x01 => s.x[1]
  | 0x02 => s.x[2]
  | 0x03 => s.x[3]
  | 0x09 => s.status.toWord
  | 0x0A => s.cfg.toWord
  | 0x0B => respWord s.respValid
  | 0x10 => s.wlen
  | 0x11 => s.wbase
  | 0x12 => s.blen
  | 0x13 => s.boff
  | 0x14 => s.plen
  | 0x15 => s.pidx
  | 0x18 => s.minw
  | 0x19 => s.skip0
  | 0x1A => s.clk
  | 0x1B => s.tol
  | 0x1C => s.mkidx
  | 0x1D => s.mkph
  | 0x1E => s.mkpos
  | 0x20 => s.m1idx
  | 0x21 => s.m1ph
  | 0x22 => s.m2idx
  | 0x28 => s.nblk
  | 0x29 => s.blkpf.setWidth 32
  | 0x2A => s.blk[0]
  | 0x2B => s.blk[1]
  | 0x2C => s.blk[2]
  | 0x2D => s.blk[3]
  | 0x2E => s.blk[4]
  | 0x2F => s.blk[5]
  | 0x30 => s.word
  | 0x31 => s.addr.setWidth 32
  | 0x32 => s.stage.toWord
  | 0x33 => stgerrWord s.stgerr
  | 0x34 => s.preoff
  | 0x38 => s.idlo
  | 0x39 => s.idhi.setWidth 32
  | 0x3A => s.xlhi
  | 0x3C => s.chiptype
  | 0x3D => s.captype
  | 0x3E => s.custcode
  | 0x3F => s.serial
  | _ => 0

/-- WR of a register that is not CMD (R13, R72): `none` is a refusal (WLEN or BLEN above its capacity). A write to a
read-only or unnamed register is ignored. -/
def State.writeReg (s : State) (n : Nat) (v : Word) : Option State :=
  match n with
  | 0x00 => some { s with x := s.x.set 0 v }
  | 0x01 => some { s with x := s.x.set 1 v }
  | 0x02 => some { s with x := s.x.set 2 v }
  | 0x03 => some { s with x := s.x.set 3 v }
  | 0x0A => some { s with cfg := Cfg.ofWord v }
  | 0x0B => some { s with respValid := v.getLsbD 0 }
  | 0x10 => if v.toNat ≤ s.params.wmax then some { s with wlen := v } else none
  | 0x11 => some { s with wbase := v }
  | 0x12 => if v.toNat ≤ s.params.bmax then some { s with blen := v } else none
  | 0x13 => some { s with boff := v }
  | 0x15 => some { s with pidx := v }
  | 0x3A => some { s with xlhi := v }
  | _ => some s

/-- A transaction that starts no command: the state it leaves and what it returns (R72, R73). A refused one changes
nothing. -/
def State.transact (s : State) (t : Transaction) : State × Reply :=
  match t with
  | .wr n v =>
    match s.writeReg n v with
    | some u => (u, .done)
    | none => (s, .refused)
  | .rd n => (s, .word (s.readReg n))
  | .wrwave i v =>
    if i < s.params.wmax ∧ sampleFits s.params.sampleWidth v then (s.writeWave i [v], .done) else (s, .refused)
  | .rdwave i => if i < s.wlen.toNat then (s, .sample (s.waveAt i)) else (s, .refused)
  | .wrbits i v => if i < s.params.bmax ∧ v < 2 then (s.writeBits i [v == 1], .done) else (s, .refused)
  | .rdbits i => if i < s.blen.toNat then (s, .bit (s.bitAt i)) else (s, .refused)
  | .rdpulse i => if i < s.plen.toNat then (s, .word (s.pulseAt i)) else (s, .refused)

/-- The command word a transaction writes, if it is a write of CMD (R60). -/
def Transaction.command? : Transaction → Option Word
  | .wr n v => if n = cmdNumber then some v else none
  | _ => none

/-- A transaction is over: the index into the host's list advances by exactly 1 (10_state.md R11) and what it returned
is recorded (log 3). -/
def State.answered (s : State) (r : Reply) : State := { s with pc := s.pc + 1, replies := s.replies ++ [r] }

/-- A write of CMD executes the written word completely (R60); a word that is no command is reported (R64). -/
def issueCommand (w : Word) (s : State) : Host.Outcome State Fault Refusal :=
  match decode w with
  | some i => exec i (s.answered .done)
  | none => .next (s.answered .done).illegalCommand

/-- One transaction of the host (R72). -/
def runTransaction (t : Transaction) (s : State) : Host.Outcome State Fault Refusal :=
  match t.command? with
  | some w => issueCommand w s
  | none => .next ((s.transact t).1.answered (s.transact t).2)

/-- One event: a transaction, or the hardware reset input (R190; log 13). -/
def runEvent (e : HostEvent) (s : State) : Host.Outcome State Fault Refusal :=
  match e with
  | .transaction t => runTransaction t s
  | .resetInput => .next s.hardwareReset

/-- Take the next event off the host's list and run it; with none left the block is idle (R11, R176; log 2). -/
def runNext (s : State) : Host.Outcome State Fault Refusal :=
  match s.pending with
  | [] => .next s
  | e :: rest => runEvent e { s with pending := rest }

/-! ### Pseudo-transactions (R75) -/

/-- LOADWAVE: the source's `setWaveform`. -/
def loadWave (samples : List Int) : List Transaction :=
  samples.mapIdx (fun i v => .wrwave i v) ++ [.wr 0x10 (toReg samples.length), .wr 0x11 0]

/-- CLEARWAVE: the source's `clearWaveform`. -/
def clearWave : List Transaction := [.wr 0x10 0, .wr 0x11 0]

/-- TRIM n, where the RD of WBASE gives `t`: the source's `trimLeading`. -/
def trimWave (t n : Word) : List Transaction := [.rd 0x11, .wr 0x11 (t + n)]

/-- LOADBITS. -/
def loadBits (bs : List Bool) : List Transaction :=
  bs.mapIdx (fun i b => .wrbits i b.toNat) ++ [.wr 0x12 (toReg bs.length), .wr 0x13 0]

/-- SETID v, for v below 2^64. -/
def setId (v : Nat) : List Transaction := [.wr 0x00 (toReg v), .wr 0x01 (toReg (v / 2 ^ 32))]

end Sys2Proof.Machine
end

