-- ==== Sys2Proof/Machine/Step.lean ====
section
/-! DEFINITION. One step of the machine: the next event of the host's list, executed whole (10_state.md R11,
20_memory.md R47). -/

namespace Sys2Proof.Machine

/-- One step. Parameters outside the ranges of 00_scope.md R6 describe no block (log 8). -/
def step (s : State) : Host.Outcome State Fault Refusal :=
  if s.params.wf then runNext s else .fault .impossibleParameters

/-- The state in which the next transaction of the host is the write to CMD of the word `w` of `nbits` bits, so that the
next step executes that command. The host's other events stay (log 1). -/
def State.withFetchWord (s : State) (nbits w : Nat) : State :=
  { s with pending := .transaction (.wr cmdNumber (BitVec.ofNat 32 (w % 2 ^ nbits))) :: s.pending.tail }

end Sys2Proof.Machine
end

