-- ==== Sys2Proof/Safety.lean ====
section
/-! DEFINITION. What holds of every state the machine can be in, and what a safe run is. -/

namespace Sys2Proof.Machine

/-- Every listed element lies within the capacity of its buffer, in canonical form (20_memory.md R41; log 10). -/
structure Memory.Fits {α : Type} (m : Memory α) (capacity : Nat) : Prop where
  canonical : Memory.wf m
  inside : ∀ c ∈ m, c.1 < capacity

/-- The pulses recorded (41_clock_window.md R92): each was written and is at least 2 samples wide, they lie one after
another inside WAVE's capacity (10_state.md R23), and MINW is the least width, 0 when there is none. -/
structure State.PulsesOk (s : State) : Prop where
  recorded : ∀ i < s.plen.toNat, ∃ w, Memory.read? s.pulse i = some w ∧ 2 ≤ w.toNat ∧ s.minw.toNat ≤ w.toNat
  least : s.plen.toNat ≠ 0 → ∃ i < s.plen.toNat, s.pulseAt i = s.minw
  none_recorded : s.plen.toNat = 0 → s.minw = 0
  inside : s.pos s.plen.toNat ≤ s.params.wmax

/-- The invariant of the machine: legal parameters, lengths within capacities, buffers in canonical form, samples
in the range of SAMPLE_W (00_scope.md R6; log 11), and every register with a restricted range inside it (10_state.md
R13, R15, R16, R20 to R25). -/
structure State.Inv (s : State) : Prop where
  params : s.params.wf
  wave : Memory.Fits s.wave s.params.wmax
  pulse : Memory.Fits s.pulse s.params.pmax
  bits : Memory.Fits s.bits s.params.bmax
  samples : ∀ c ∈ s.wave, sampleFits s.params.sampleWidth c.2 = true
  wlen : s.wlen.toNat ≤ s.params.wmax
  blen : s.blen.toNat ≤ s.params.bmax
  plen : s.plen.toNat ≤ s.params.pmax
  pulses : s.PulsesOk
  clock : s.clk = 0 ∨ s.clk.toNat ∈ candidates
  tolerance : s.tol.toNat ≤ s.clk.toNat
  blocks : s.nblk.toNat ≤ maxBlocks
  blockFlags : ∀ b, s.blkpf.getLsbD b = true → b < s.nblk.toNat
  stageWon : s.stage.won.toNat ≤ 8
  preambleOffset : s.preoff.toNat < preambleOffsets
  errorSeen : s.status.err ≠ .none → s.status.errSeen = true ∧ s.status.pass = false

/-- A run is safe when no step of it stops with a fault or a refusal. -/
abbrev SafeFor (s : State) (k : Nat) : Prop :=
  ∃ t, Host.Core.run
    { State := State, Fault := Fault, Refusal := Refusal, step := step, reset := State.reset } k s = .next t

end Sys2Proof.Machine
end

