-- ==== Sys2Proof/Certificates/Slice0/Obligations.lean ====
section
/-! DEFINITION. The statements about the model, each with the rule of spec/ it formalises. The helpers say in the rules'
own terms what a statement needs (counts of ones, lowest indices, element reads), apart from the model's definitions. -/

open Sys2Proof Sys2Proof.Machine

namespace Sys2Proof.Claims

/-! ### Helpers -/

/-- What `raise K` leaves of a state (R172). -/
def raised (s : State) (k : ErrKind) : State :=
  { s with status := { s.status with err := k, pass := false, errSeen := true } }

/-- What `done(p)` leaves of a state (R173). -/
def passed (s : State) (p : Bool) : State := { s with status := { s.status with err := .none, pass := p } }

/-- The state in which a transaction's own effect begins: the next transaction has been taken off the host's list, the
index has moved on, and what it returns is recorded. -/
def taken (s : State) (rest : List HostEvent) (r : Reply) : State :=
  { s with pending := rest, pc := s.pc + 1, replies := s.replies ++ [r] }

/-- The code of each error kind, as the table of R170 numbers them. -/
def errorCode : ErrKind → Nat
  | .none => 0
  | .noClockFound => 1
  | .noSyncPattern => 2
  | .demodulatorFailed => 3
  | .preambleNotFound => 4
  | .parityFailed => 5
  | .bufferTooShort => 6
  | .timeout => 7
  | .invalidArgument => 8
  | .decodeFailed => 9
  | .illegalCommand => 10
  | .frameError => 11

/-- The registers that hold one value, each under its number in R12 and R13. STATUS, CFG, STAGE and STGERR are made of
fields and are the subject of statements of their own. -/
def registerMap (s : State) : List (Nat × Word) :=
  [(0x00, s.x[0]), (0x01, s.x[1]), (0x02, s.x[2]), (0x03, s.x[3]), (0x0B, if s.respValid then 1 else 0)] ++
  [(0x10, s.wlen), (0x11, s.wbase), (0x12, s.blen), (0x13, s.boff), (0x14, s.plen), (0x15, s.pidx)] ++
  [(0x18, s.minw), (0x19, s.skip0), (0x1A, s.clk), (0x1B, s.tol), (0x1C, s.mkidx), (0x1D, s.mkph), (0x1E, s.mkpos)] ++
  [(0x20, s.m1idx), (0x21, s.m1ph), (0x22, s.m2idx), (0x28, s.nblk), (0x29, s.blkpf.setWidth 32)] ++
  [(0x2A, s.blk[0]), (0x2B, s.blk[1]), (0x2C, s.blk[2]), (0x2D, s.blk[3]), (0x2E, s.blk[4]), (0x2F, s.blk[5])] ++
  [(0x30, s.word), (0x31, s.addr.setWidth 32), (0x34, s.preoff), (0x38, s.idlo), (0x39, s.idhi.setWidth 32)] ++
  [(0x3A, s.xlhi), (0x3C, s.chiptype), (0x3D, s.captype), (0x3E, s.custcode), (0x3F, s.serial)]

/-- The sample lies in the range of SAMPLE_W, if that parameter is fixed: two's complement, as log 11 reads R6. -/
def InSampleRange (s : State) (v : Int) : Prop :=
  ∀ w, s.params.sampleWidth = some w → -(2 ^ (w - 1)) ≤ v ∧ v < 2 ^ (w - 1)

/-- How many of `f 0`, ..., `f (n-1)` are 1. -/
def ones (f : Nat → Bool) (n : Nat) : Nat := ((List.range n).filter f).length

/-- Every row but the last holds an even (odd) number of ones for parity type 0 (1) (R83). -/
def RowsPass (bit : Nat → Bool) (rows cols : Nat) (pt : Bool) : Prop :=
  ∀ r, r + 1 < rows → ones (fun c => bit (r * cols + c)) cols % 2 = pt.toNat

/-- Every column but the last holds an even (odd) number of ones for parity type 0 (1) (R83). -/
def ColsPass (bit : Nat → Bool) (rows cols : Nat) (pt : Bool) : Prop :=
  ∀ c, c + 1 < cols → ones (fun r => bit (r * cols + c)) rows % 2 = pt.toNat

/-- Bit `i` of the part of BITS that starts at BOFF. -/
def offsetBit (s : State) (i : Nat) : Bool := s.bitAt (s.boff.toNat + i)

/-- Bit `i` of a sequence. -/
def seqBit (bs : List Bool) (i : Nat) : Bool := bs.getD i false

/-- The op byte of a command (R62). -/
def op : Instr → Nat
  | .nop => 0x00
  | .rowpar _ _ _ => 0x01
  | .colpar _ _ _ => 0x02
  | .blkpar _ _ _ => 0x03
  | .pulses => 0x10
  | .clksel _ => 0x11
  | .lwfind => 0x12
  | .lwsync _ => 0x13
  | .x50read _ => 0x20
  | .x50code => 0x21
  | .x05dec _ _ => 0x30
  | .x05test _ => 0x31
  | .psk2map => 0x32
  | .x05info => 0x33
  | .e410enc _ => 0x40
  | .e410dec => 0x41
  | .e410wchk _ => 0x42
  | .rst => 0xFF

/-- `mx` and `mn` are the largest and the smallest visible sample (R90). -/
def Extremes (s : State) (mx mn : Int) : Prop :=
  (∃ k, s.wbase.toNat ≤ k ∧ k < s.wlen.toNat ∧ s.waveAt k = mx) ∧
  (∃ k, s.wbase.toNat ≤ k ∧ k < s.wlen.toNat ∧ s.waveAt k = mn) ∧
  (∀ k, s.wbase.toNat ≤ k → k < s.wlen.toNat → mn ≤ s.waveAt k ∧ s.waveAt k ≤ mx)

/-- `j` is the first low sample after the first high sample from `i` on (R91). -/
def NextLow (s : State) (hi lo : Int) (i j : Nat) : Prop :=
  ∃ h, i ≤ h ∧ h < j ∧ j < s.wlen.toNat ∧ (∀ k, i ≤ k → k < h → s.waveAt k < hi) ∧ hi ≤ s.waveAt h ∧
    (∀ k, h ≤ k → k < j → lo < s.waveAt k) ∧ s.waveAt j ≤ lo

/-- PULSES's registers for no recorded pulse, with SKIP0 as given (R92). -/
def noPulses (s : State) (skip : Word) : State :=
  { s with plen := 0, minw := 0, skip0 := skip, status := { s.status with ptrunc := false } }

/-- MINW lies in the acceptance window of the candidate `p` for divisor `T` (R94). -/
def Accepts (T m p : Nat) : Prop := p ≤ m + p / T ∧ m ≤ p + 1

/-- The width of pulse `i`. -/
def width (s : State) (i : Nat) : Nat := (s.pulseAt i).toNat

/-- `Match4(i)` (R98). -/
def Match4 (s : State) (i : Nat) : Prop :=
  let c := s.clk.toNat
  let d := s.tol.toNat
  (3 * c ≤ width s i + d ∧ width s i ≤ 3 * c + d) ∧
  (2 * c ≤ width s (i + 1) + d ∧ width s (i + 1) ≤ 2 * c + d) ∧
  (3 * c ≤ width s (i + 2) + d ∧ width s (i + 2) ≤ 3 * c + d) ∧
  c ≤ width s (i + 3) + d

/-- `i` is the lowest index from `start` on where a marker stands (R100). -/
def LowestMarker (s : State) (start i : Nat) : Prop :=
  start ≤ i ∧ i + 3 < s.plen.toNat ∧ Match4 s i ∧ ∀ k, start ≤ k → k < i → ¬ Match4 s k

/-- No marker stands from `start` on. -/
def NoMarker (s : State) (start : Nat) : Prop := ∀ i, start ≤ i → i + 3 < s.plen.toNat → ¬ Match4 s i

/-- The phase offset of a marker (R99). -/
def phase (s : State) (i : Nat) : Nat :=
  if s.clk.toNat < width s (i + 3) then width s (i + 3) - s.clk.toNat else 0

/-- `pos(k)` (R23). -/
def position (s : State) (k : Nat) : Nat := s.skip0.toNat + ((List.range k).map (width s)).sum

/-- What a demodulator answers to call `c`, when from state `s` on it is demodulator call number `k` and call number `n`
of all: an answer that is ready, or a free one (R30). -/
def demodAnswerAt (s : State) (k n : Nat) (c : OracleCall) : Option (List Bool) :=
  match s.demodIn[k]? with
  | some r => r
  | none => Config.demodAnswer (s.calls.length + n) c

/-- What a clock estimator answers to call `c`, when from state `s` on it is estimator call number `k` and call number
`n` of all (R32, R33). -/
def clockAnswerAt (s : State) (k n : Nat) (c : OracleCall) : Option PosClock :=
  match s.clockIn[k]? with
  | some r => r
  | none => Config.clockAnswer (s.calls.length + n) c

/-- X50READ's registers before it synchronises (R112). -/
def x50Cleared (s : State) : State :=
  { s with nblk := 0, blkpf := 0, status := { s.status with allPar := true } }

/-- `DataStart(m, ph)` with the phase of the marker at `m` (R111, R99). -/
def blockStart (s : State) (m : Nat) : Nat := position s (m + 3) + s.clk.toNat + phase s m

/-- The call for the block between the markers at `m` and `j`: the samples from the block's first bit up to the second
marker, Manchester, CLK, no inversion, MAXERR (R112, R117). -/
def blockCall (s : State) (m j : Nat) : OracleCall :=
  .demodAsk .manchester
    { lo := blockStart s m, hi := position s j,
      samples := (List.range' (blockStart s m) (position s j - blockStart s m)).map s.waveAt }
    s.clk.toNat false s.cfg.maxErr.toNat

/-- The code of a block, bit by bit (R118): bit `k` of data byte `r` is bit `31 - 8r - k` of the code. -/
def IsCode50 (code : Word) (bit : Nat → Bool) : Prop :=
  ∀ r k, r < 4 → k < 8 → code.getLsbD (31 - 8 * r - k) = bit (9 * r + k)

/-- Both parity tests hold on a 5 by 9 block, even parity (R86, R110). -/
def BlockPasses (bit : Nat → Bool) : Prop := RowsPass bit 5 9 false ∧ ColsPass bit 5 9 false

/-- The preamble 0,0,1,0,1,0 stands at offset `o` of `len` bits (R126). -/
def PreambleAt (bit : Nat → Bool) (len o : Nat) : Prop :=
  o + 6 ≤ len ∧ bit o = false ∧ bit (o + 1) = false ∧ bit (o + 2) = true ∧ bit (o + 3) = false ∧
    bit (o + 4) = true ∧ bit (o + 5) = false

/-- `o` is the lowest of the offsets 0 to 13 where the preamble stands (R126). -/
def FirstPreamble (bit : Nat → Bool) (len o : Nat) : Prop :=
  o < 14 ∧ PreambleAt bit len o ∧ ∀ k, k < o → ¬ PreambleAt bit len k

/-- Payload bit `n` of a response whose preamble stands at `o` (R133). -/
def payloadBit (bit : Nat → Bool) (o n : Nat) : Bool := bit (o + 6 + 9 * (n / 8) + n % 8)

/-- A read response validates at preamble offset `o` (R133). -/
def ValidRead (bit : Nat → Bool) (len o : Nat) : Prop :=
  FirstPreamble bit len o ∧ o + 51 ≤ len ∧ BlockPasses (fun i => bit (o + 6 + i))

/-- What X05DEC leaves when stage number `won` validates a read response with preamble at `o` (R127), from a state that
already holds the calls made and the stages' records; WORD and BITS are characterised by `ReadStored`. -/
def ReadStored (bit : Nat → Bool) (o : Nat) (s t : State) : Prop :=
  (∀ n, n < 32 → t.word.getLsbD n = payloadBit bit o n ∧ t.bitAt n = payloadBit bit o n) ∧
  (∀ n, 32 ≤ n → t.bitAt n = s.bitAt n)

/-- The waveform X05DEC passes to its collaborators (R127). -/
def visible (s : State) : Window :=
  { lo := s.wbase.toNat, hi := s.wlen.toNat,
    samples := (List.range' s.wbase.toNat (s.wlen.toNat - s.wbase.toNat)).map s.waveAt }

/-- An amplitude demodulator call. -/
def isAsk : OracleCall → Bool
  | .demodAsk _ _ _ _ _ => true
  | .estimateFskClock _ => false
  | .demodFsk _ _ => false
  | .estimatePskClock _ => false
  | .demodPsk _ _ _ _ => false

/-- An estimator call. -/
def isEstimate : OracleCall → Bool
  | .demodAsk _ _ _ _ _ => false
  | .estimateFskClock _ => true
  | .demodFsk _ _ => false
  | .estimatePskClock _ => true
  | .demodPsk _ _ _ _ => false

/-- What is answered to the estimator call `c` when the calls `before` have been made since state `s`. -/
def clockReply (s : State) (before : List OracleCall) (c : OracleCall) : Option PosClock :=
  clockAnswerAt s (before.countP isEstimate) before.length c

/-- What is answered to the demodulator call `c` when the calls `before` have been made since state `s`. -/
def demodReply (s : State) (before : List OracleCall) (c : OracleCall) : Option (List Bool) :=
  demodAnswerAt s (before.countP (fun d => !isEstimate d)) before.length c

/-- A stage that asks an estimator and, when that gives a clock, a demodulator (R127, R130): its bits and its calls. -/
def estimatedStage (s : State) (before : List OracleCall) (estimate : OracleCall) (demod : Nat → OracleCall) :
    Option (List Bool) × List OracleCall :=
  match clockReply s before estimate with
  | none => (none, [estimate])
  | some k => (demodReply s (before ++ [estimate]) (demod k.val), [estimate, demod k.val])

/-- A stage that asks a demodulator that finds its own clock (R127, R130). -/
def clocklessStage (s : State) (before : List OracleCall) (kind : AskKind) (invert : Bool) :
    Option (List Bool) × List OracleCall :=
  let c := OracleCall.demodAsk kind (visible s) 0 invert s.cfg.maxErr.toNat
  (demodReply s before c, [c])

/-- The table of R127: the bits of stage `k` and the calls it makes, when the calls `before` have been made and the
stages' bits are `bits`. Stages 3 and 5 remap the raw bits of stages 2 and 4. -/
def stageRow (s : State) (before : List OracleCall) (bits : Nat → Option (List Bool)) (k : Nat) :
    Option (List Bool) × List OracleCall :=
  match k with
  | 1 => estimatedStage s before (.estimateFskClock (visible s)) (.demodFsk (visible s))
  | 2 => estimatedStage s before (.estimatePskClock (visible s)) (fun c => .demodPsk (visible s) c 1 false)
  | 3 => ((bits 2).map s.psk1ToPsk2, [])
  | 4 => estimatedStage s before (.estimatePskClock (visible s)) (fun c => .demodPsk (visible s) c 1 true)
  | 5 => ((bits 4).map s.psk1ToPsk2, [])
  | 6 => clocklessStage s before .manchester false
  | 7 => clocklessStage s before .biphase false
  | 8 => clocklessStage s before .biphase true
  | _ => (none, [])

/-- The default map of PSK variant 1 to variant 2, which the spec takes from general knowledge (R131, G1). -/
def transitionMap (bs : List Bool) : List Bool :=
  (List.range bs.length).map (fun n => if n = 0 then seqBit bs 0 else seqBit bs n ^^ seqBit bs (n - 1))

/-- A stage's bits validate with the preamble at offset `o` (R133): for a read with parity, else by the preamble alone. -/
def StageValidates (bs : List Bool) (readCmd : Bool) (o : Nat) : Prop :=
  FirstPreamble (seqBit bs) bs.length o ∧ (readCmd = true → ValidRead (seqBit bs) bs.length o)

/-- How a stage with the bits `bits` fails, and the kind STGERR keeps of it (R127, R128, R133). -/
def StageFails (bits : Option (List Bool)) (readCmd : Bool) (k : ErrKind) : Prop :=
  ((bits = none ∨ bits = some []) ∧ k = .demodulatorFailed) ∨
  ∃ bs, bits = some bs ∧ bs ≠ [] ∧
    (((∀ o, o < 14 → ¬ PreambleAt (seqBit bs) bs.length o) ∧ k = .preambleNotFound) ∨
      (readCmd = true ∧ ∃ o, FirstPreamble (seqBit bs) bs.length o ∧
        ((bs.length < o + 51 ∧ k = .bufferTooShort) ∨
          (o + 51 ≤ bs.length ∧ ¬ BlockPasses (fun i => seqBit bs (o + 6 + i)) ∧ k = .parityFailed))))

/-- E410DEC's flags before its checks (R156). -/
def e410Cleared (s : State) : State := { s with status := { s.status with found := false, idValid := false } }

/-- Two states that differ at most in buffer elements at or beyond the lengths (and in the free values such elements
take). -/
def SameReadable (s t : State) : Prop :=
  t = { s with wave := t.wave, pulse := t.pulse, bits := t.bits, epoch := t.epoch } ∧
  (∀ i, i < s.wlen.toNat → t.waveAt i = s.waveAt i) ∧
  (∀ i, i < s.plen.toNat → t.pulseAt i = s.pulseAt i) ∧
  (∀ i, i < s.blen.toNat → t.bitAt i = s.bitAt i)

end Sys2Proof.Claims

open Sys2Proof.Claims

/-! ### Encoding -/

/-- R62: decoding the word of a well-formed command gives the command back, with every operand. -/
def Obligations.DecodeOfEncodeIsTheCommand : Prop :=
  ∀ i : Instr, wellFormed i = true → decode (encode i) = some i

/-- R62, R64: the other direction. A word that decodes is the word of the command it decodes to, so no bit of it is
dropped, and that command is well formed. -/
def Obligations.EncodeOfDecodeIsTheWord : Prop :=
  ∀ (w : Word) (i : Instr), decode w = some i → wellFormed i = true ∧ encode i = w

/-- R63: a word is a command exactly when it matches that command's row of the match and mask table, and the rows
exclude each other. -/
def Obligations.DecodeAgreesWithMatchAndMask : Prop :=
  (∀ (w : Word) (i : Instr), decode w = some i → w &&& (matchMask i).2 = (matchMask i).1) ∧
  (∀ (w : Word) (j : Instr), w &&& (matchMask j).2 = (matchMask j).1 →
    ∃ i, decode w = some i ∧ matchMask i = matchMask j) ∧
  (∀ (w : Word) (i j : Instr), w &&& (matchMask i).2 = (matchMask i).1 → w &&& (matchMask j).2 = (matchMask j).1 →
    matchMask i = matchMask j)

/-- 95_test_vectors.md P1 to P5: command words the spec writes out decode to the commands it gives them for. -/
def Obligations.WrittenOutWordsDecode : Prop :=
  decode 0x03000905 = some (.blkpar 5 9 false) ∧ decode 0x01000905 = some (.rowpar 5 9 false) ∧
  decode 0x21000000 = some .x50code ∧ decode 0x42000040 = some (.e410wchk 64) ∧
  decode 0x40000040 = some (.e410enc 64) ∧ decode 0x11000000 = some (.clksel 0) ∧
  decode 0x31010000 = some (.x05test true) ∧ decode 0xFF000000 = some .rst ∧
  decode 0x01020905 = none ∧ decode 0xFF000001 = none

/-! ### Steps and the host port -/

/-- R60: when the next transaction writes to CMD a word that decodes to a command, the step is that command's effect on
the state whose transaction has been taken (the index moved on, the completed write recorded). -/
def Obligations.StepRunsTheDecodedCommand : Prop :=
  ∀ (s : State) (w : Word) (i : Instr) (rest : List HostEvent), s.params.wf →
    s.pending = .transaction (.wr 0x08 w) :: rest → decode w = some i → step s = exec i (taken s rest .done)

/-- R64: a word that matches no row of R63 changes STATUS alone (ERR 10, PASS 0, ERRSEEN 1) and calls no oracle. That the
transaction leaves the host's list and is recorded as done is the model's choice (log 1, log 3). -/
def Obligations.IllegalWordChangesStatusOnly : Prop :=
  ∀ (s : State) (w : Word) (rest : List HostEvent), s.params.wf →
    s.pending = .transaction (.wr 0x08 w) :: rest → (∀ j : Instr, w &&& (matchMask j).2 ≠ (matchMask j).1) →
    step s = .next (raised (taken s rest .done) .illegalCommand)

/-- The model's choice (log 2) with log 8: with nothing left of the host's list the block stays as it is; with
impossible parameters the step stops. -/
def Obligations.IdleAndImpossibleSteps : Prop :=
  (∀ s : State, s.params.wf → s.pending = [] → step s = .next s) ∧
  (∀ s : State, ¬ s.params.wf → step s = .fault .impossibleParameters)

/-- R45: reading a register or an element that may be read changes nothing but the host's own list and record. -/
def Obligations.ReadsChangeNothing : Prop :=
  ∀ (s : State) (rest : List HostEvent), s.params.wf →
    (∀ n, s.pending = .transaction (.rd n) :: rest → step s = .next (taken s rest (.word (s.readReg n)))) ∧
    (∀ i, i < s.wlen.toNat → s.pending = .transaction (.rdwave i) :: rest →
      step s = .next (taken s rest (.sample (s.waveAt i)))) ∧
    (∀ i, i < s.blen.toNat → s.pending = .transaction (.rdbits i) :: rest →
      step s = .next (taken s rest (.bit (s.bitAt i)))) ∧
    (∀ i, i < s.plen.toNat → s.pending = .transaction (.rdpulse i) :: rest →
      step s = .next (taken s rest (.word (s.pulseAt i))))

/-- R12, R13: what RD of each register number returns. CMD and every number the map does not name read 0, also those
above 0x3F (log 12). -/
def Obligations.RegistersReadTheirFields : Prop :=
  ∀ (s : State) (n : Nat) (rest : List HostEvent), s.params.wf → s.pending = .transaction (.rd n) :: rest →
    (∀ v, (n, v) ∈ registerMap s → step s = .next (taken s rest (.word v))) ∧
    (n ∉ [0x09, 0x0A, 0x32, 0x33] → n ∉ (registerMap s).map Prod.fst → step s = .next (taken s rest (.word 0)))

/-- R14, R16, R17, with the codes of R170: how CFG, STAGE and STGERR are made of their fields. -/
def Obligations.PackedRegistersReadTheirFields : Prop :=
  ∀ s : State,
    (let cfg := s.readReg 0x0A
     cfg.toNat % 256 = s.cfg.toldiv.toNat ∧ cfg.toNat / 256 = s.cfg.maxErr.toNat) ∧
    (let stage := s.readReg 0x32
     stage.toNat % 16 = s.stage.won.toNat ∧ (∀ k, k < 8 → stage.getLsbD (8 + k) = s.stage.tried.getLsbD k) ∧
     ∀ k, (4 ≤ k ∧ k < 8) ∨ 16 ≤ k → stage.getLsbD k = false) ∧
    (let stgerr := s.readReg 0x33
     ∀ k, (hk : k < 8) → stgerr.toNat / 16 ^ k % 16 = errorCode s.stgerr[k])

/-- R73: a transaction the table of R72 excludes changes nothing and returns Refused. That the range of a fixed SAMPLE_W
is two's complement is the model's reading (log 11). -/
def Obligations.ExcludedTransactionsAreRefused : Prop :=
  ∀ (s : State) (t : Transaction) (rest : List HostEvent), s.params.wf → s.pending = .transaction t :: rest →
    ((∃ v, t = .wr 0x10 v ∧ s.params.wmax < v.toNat) ∨ (∃ v, t = .wr 0x12 v ∧ s.params.bmax < v.toNat) ∨
      (∃ i v, t = .wrwave i v ∧ s.params.wmax ≤ i) ∨
      (∃ i v w, t = .wrwave i v ∧ s.params.sampleWidth = some w ∧ (v < -(2 ^ (w - 1)) ∨ 2 ^ (w - 1) ≤ v)) ∨
      (∃ i, t = .rdwave i ∧ s.wlen.toNat ≤ i) ∨ (∃ i v, t = .wrbits i v ∧ (s.params.bmax ≤ i ∨ 2 ≤ v)) ∨
      (∃ i, t = .rdbits i ∧ s.blen.toNat ≤ i) ∨ (∃ i, t = .rdpulse i ∧ s.plen.toNat ≤ i)) →
    step s = .next (taken s rest .refused)

/-- R13, R14, R27: what a write of a register leaves. The writable registers hold what was written (CFG its 16 bits,
RESP its bit 0, WLEN and BLEN within their capacities); every other number ignores the write; no other register reads
differently, and no buffer changes. CMD is the subject of other statements. -/
def Obligations.WrittenRegistersReadBack : Prop :=
  ∀ (s : State) (n : Nat) (v : Word) (rest : List HostEvent), s.params.wf → n ≠ 0x08 →
    s.pending = .transaction (.wr n v) :: rest →
    (n = 0x10 → v.toNat ≤ s.params.wmax) → (n = 0x12 → v.toNat ≤ s.params.bmax) →
    ∃ t, step s = .next t ∧
      t.readReg n =
        (if n ∈ [0x00, 0x01, 0x02, 0x03, 0x10, 0x11, 0x12, 0x13, 0x15, 0x3A] then v
         else if n = 0x0A then v &&& 0xFFFF
         else if n = 0x0B then v &&& 1
         else s.readReg n) ∧
      (∀ m, m ≠ n → t.readReg m = s.readReg m) ∧
      (n ∉ [0x00, 0x01, 0x02, 0x03, 0x0A, 0x0B, 0x10, 0x11, 0x12, 0x13, 0x15, 0x3A] → t = taken s rest .done) ∧
      t.wave = s.wave ∧ t.pulse = s.pulse ∧ t.bits = s.bits

/-- R72: an element the host writes reads back, every other element and everything else stays. A sample is written when
it lies in the range of SAMPLE_W, whether that is fixed (two's complement: log 11) or open. -/
def Obligations.WrittenElementsReadBack : Prop :=
  ∀ (s : State) (rest : List HostEvent), s.params.wf →
    (∀ i v, s.pending = .transaction (.wrwave i v) :: rest → i < s.params.wmax → InSampleRange s v →
      ∃ t, step s = .next t ∧ t = { taken s rest .done with wave := t.wave } ∧
        ∀ j, t.waveAt j = if j = i then v else s.waveAt j) ∧
    (∀ i v, s.pending = .transaction (.wrbits i v) :: rest → i < s.params.bmax → v < 2 →
      ∃ t, step s = .next t ∧ t = { taken s rest .done with bits := t.bits } ∧
        ∀ j, t.bitAt j = if j = i then decide (v = 1) else s.bitAt j)

/-- R11: every transaction, whatever it is, advances the index into the host's list by exactly 1, takes exactly itself
off the list and returns exactly one reply; the index starts at 0. The list and the index in State, and a reply of a
write or a command, are the model's choice (log 1, log 3). -/
def Obligations.EveryTransactionAdvancesByOne : Prop :=
  State.reset.pc = 0 ∧
  ∀ (s : State) (tr : Transaction) (rest : List HostEvent), s.params.wf → s.pending = .transaction tr :: rest →
    ∃ t r, step s = .next t ∧ t.pc = s.pc + 1 ∧ t.pending = rest ∧ t.replies = s.replies ++ [r]

/-! ### Reset -/

/-- R191, with R13 for CMD and the numbers without a register (log 12 for those above 0x3F): right after reset every
number reads 0 but CFG, which reads 8, and no element of a buffer is readable: each element read is refused. -/
def Obligations.ResetRegistersRead : Prop :=
  (∀ n, State.reset.readReg n = if n = 0x0A then 8 else 0) ∧
  (∀ i, State.reset.transact (.rdwave i) = (State.reset, .refused) ∧
    State.reset.transact (.rdbits i) = (State.reset, .refused) ∧
    State.reset.transact (.rdpulse i) = (State.reset, .refused))

/-- R192: RST leaves every register reading its reset value and all of STATUS 0. The model's choices: the buffers list
nothing and their contents are the free values of a new reset (log 10), and the parameters, the host's list, the record
of calls and the collaborators' answers are not the block's and stay (log 5, log 13). -/
def Obligations.RstRestoresTheResetState : Prop :=
  ∀ s : State, ∃ t, exec .rst s = .next t ∧ (∀ n, t.readReg n = State.reset.readReg n) ∧
    t.status = State.reset.status ∧ t.cfg = State.reset.cfg ∧ t.x = State.reset.x ∧
    t.wave = [] ∧ t.pulse = [] ∧ t.bits = [] ∧ t.epoch = s.epoch + 1 ∧
    t.params = s.params ∧ t.pending = s.pending ∧ t.pc = s.pc ∧ t.replies = s.replies ∧ t.calls = s.calls ∧
    t.demodIn = s.demodIn ∧ t.clockIn = s.clockIn

/-- R190: the hardware reset input has the effect of RST and no other. That it stands between two transactions, neither
moves the index on nor returns anything is the model's choice (log 13). -/
def Obligations.ResetInputActsAsRst : Prop :=
  ∀ (s : State) (rest : List HostEvent), s.params.wf → s.pending = .resetInput :: rest →
    step s = exec .rst { s with pending := rest } ∧
    ∃ t, step s = .next t ∧ ∀ n, t.readReg n = if n = 0x0A then 8 else 0

/-! ### Reporting, and who writes what -/

/-- R172, R173, R174: every command ends, never with a fault or a refusal. With an error: PASS 0 and ERRSEEN 1. Without
one: ERRSEEN is as before, unless the command is RST. -/
def Obligations.EveryCommandEndsAndReports : Prop :=
  ∀ (i : Instr) (s : State), ∃ t, exec i s = .next t ∧
    (t.status.err ≠ .none → t.status.pass = false ∧ t.status.errSeen = true) ∧
    (t.status.err = .none → i ≠ .rst → t.status.errSeen = s.status.errSeen)

/-- R173 (an inference the spec marks as derived): PASS 0 without an error happens in PULSES and X50READ only. -/
def Obligations.EmptyVerdictOnlyFromPulsesAndX50read : Prop :=
  ∀ (i : Instr) (s t : State), exec i s = .next t → i ≠ .rst → t.status.err = .none → t.status.pass = false →
    i = .pulses ∨ ∃ clk, i = .x50read clk

/-- R15, with the codes of R170 for ERR: the bits of STATUS, and that a command the table does not list for a field leaves the field unchanged. -/
def Obligations.StatusLayoutAndWriters : Prop :=
  (∀ s : State,
    let w := s.readReg 0x09
    w.toNat % 16 = errorCode s.status.err ∧ w.getLsbD 4 = s.status.pass ∧ w.getLsbD 5 = s.status.complete ∧
    w.getLsbD 6 = s.status.allPar ∧ w.getLsbD 7 = s.status.found ∧ w.getLsbD 8 = s.status.ptrunc ∧
    w.getLsbD 9 = s.status.idValid ∧ w.getLsbD 10 = s.status.errSeen ∧ w.toNat < 2 ^ 11) ∧
  State.reset.readReg 0x09 = 0 ∧
  (∀ (i : Instr) (s t : State), exec i s = .next t → i ≠ .rst →
    (op i ∉ [0x13, 0x20] → t.status.complete = s.status.complete) ∧
    (op i ∉ [0x20] → t.status.allPar = s.status.allPar) ∧
    (op i ∉ [0x12, 0x41] → t.status.found = s.status.found) ∧
    (op i ∉ [0x10, 0x13, 0x20] → t.status.ptrunc = s.status.ptrunc) ∧
    (op i ∉ [0x41] → t.status.idValid = s.status.idValid) ∧
    (s.status.errSeen = true → t.status.errSeen = true))

/-- R12, R13, R35: a command but RST leaves every register alone that the register map does not name it a writer of; the
registers the host alone writes (x, CFG, RESP, XLHI) no command writes. -/
def Obligations.OnlyTheListedCommandsWriteARegister : Prop :=
  ∀ (i : Instr) (s t : State), exec i s = .next t → i ≠ .rst →
    t.x = s.x ∧ t.cfg = s.cfg ∧ t.respValid = s.respValid ∧ t.xlhi = s.xlhi ∧
    (op i ∉ [0x40] → t.wlen = s.wlen) ∧
    (op i ∉ [0x20, 0x40] → t.wbase = s.wbase) ∧
    (op i ∉ [0x20, 0x30, 0x31, 0x40] → t.blen = s.blen ∧ t.boff = s.boff) ∧
    (op i ∉ [0x10, 0x13, 0x20] → t.plen = s.plen ∧ t.minw = s.minw ∧ t.skip0 = s.skip0) ∧
    (op i ∉ [0x12, 0x13, 0x20] → t.pidx = s.pidx) ∧
    (op i ∉ [0x11, 0x13, 0x20] → t.clk = s.clk ∧ t.tol = s.tol) ∧
    (op i ∉ [0x12] → t.mkidx = s.mkidx ∧ t.mkph = s.mkph ∧ t.mkpos = s.mkpos) ∧
    (op i ∉ [0x13, 0x20] → t.m1idx = s.m1idx ∧ t.m1ph = s.m1ph ∧ t.m2idx = s.m2idx) ∧
    (op i ∉ [0x20] → t.nblk = s.nblk ∧ t.blkpf = s.blkpf ∧ t.blk = s.blk) ∧
    (op i ∉ [0x21, 0x30, 0x31] → t.word = s.word) ∧
    (op i ∉ [0x30] → t.addr = s.addr ∧ t.stage = s.stage ∧ t.stgerr = s.stgerr) ∧
    (op i ∉ [0x30, 0x31] → t.preoff = s.preoff) ∧
    (op i ∉ [0x41] → t.idlo = s.idlo ∧ t.idhi = s.idhi) ∧
    (op i ∉ [0x33] → t.chiptype = s.chiptype ∧ t.captype = s.captype ∧ t.custcode = s.custcode ∧
      t.serial = s.serial)

/-- R46: which commands write which buffer, and that the parity commands write nothing but ERR, PASS and ERRSEEN. -/
def Obligations.OnlyTheListedCommandsWriteABuffer : Prop :=
  ∀ (i : Instr) (s t : State), exec i s = .next t → i ≠ .rst →
    (op i ∉ [0x40] → t.wave = s.wave) ∧
    (op i ∉ [0x10, 0x13, 0x20] → t.pulse = s.pulse) ∧
    (op i ∉ [0x20, 0x30, 0x31, 0x32, 0x40] → t.bits = s.bits) ∧
    (op i ∈ [0x01, 0x02, 0x03] →
      t = { s with status :=
        { s.status with err := t.status.err, pass := t.status.pass, errSeen := t.status.errSeen } })

/-- R10, R30, R36, R53: a command leaves the parameters and the host's list alone; the event history only grows, and
only X50READ and X05DEC call a collaborator. -/
def Obligations.OnlyDecodersCallCollaborators : Prop :=
  ∀ (i : Instr) (s t : State), exec i s = .next t →
    t.params = s.params ∧ t.pending = s.pending ∧ t.pc = s.pc ∧ t.replies = s.replies ∧
    (∃ cs, t.calls = s.calls ++ cs) ∧
    (op i ∉ [0x20, 0x30] → t.calls = s.calls ∧ t.demodIn = s.demodIn ∧ t.clockIn = s.clockIn) ∧
    (op i = 0x20 → t.clockIn = s.clockIn)

/-! ### Invariants and isolation -/

/-- 10_state.md R13, R15, R16, R20 to R25: the machine right after reset meets the invariant. -/
def Obligations.ResetMeetsTheInvariant : Prop := State.reset.Inv

/-- The invariant is kept by every step from every state that meets it, and such a step never stops. -/
def Obligations.EveryStepKeepsTheInvariant : Prop :=
  ∀ s : State, s.Inv → (∃ t, step s = .next t) ∧ ∀ t, step s = .next t → t.Inv

/-- R6 (log 11): in every state that meets the invariant every sample of WAVE lies in the range of SAMPLE_W, the free ones
that nothing has written included. -/
def Obligations.EverySampleLiesInItsRange : Prop :=
  ∀ s : State, s.Inv → ∀ i, InSampleRange s (s.waveAt i)

/-- R41: no command reads a buffer element at or beyond the buffer's length. From two states that differ only in such
elements every command leaves two states that differ only in such elements: the same registers, the same flags, the same
oracle calls, the same readable elements. -/
def Obligations.CommandsNeverReadPastALength : Prop :=
  ∀ (i : Instr) (s u : State), SameReadable s u →
    ∃ t v, exec i s = .next t ∧ exec i u = .next v ∧ SameReadable t v

/-! ### Parity Validator -/

/-- R80: NOP clears ERR and sets PASS, and changes nothing else. -/
def Obligations.NopReportsSuccessOnly : Prop :=
  ∀ s : State, exec .nop s = .next { s with status := { s.status with err := .none, pass := true } }

/-- R82: both parity functions answer Invalid exactly when the matrix does not fit the bits, whatever the bits are. -/
def Obligations.ParityTestsFailClosed : Prop :=
  ∀ (bs : List Bool) (rows cols : Nat) (pt : Bool),
    (rowParityTest bs rows cols pt = .invalid ↔ bs.length < rows * cols) ∧
    (colParityTest bs rows cols pt = .invalid ↔ bs.length < rows * cols)

/-- R84 (with R82, R83, R87): ROWPAR. Zero dimensions raise InvalidArgument, a matrix that does not fit raises
BufferTooShort, a row but the last with the wrong number of ones raises ParityFailed, anything else passes; only STATUS
changes. -/
def Obligations.RowparOutcome : Prop :=
  ∀ (s : State) (rows cols : Nat) (pt : Bool),
    ((rows = 0 ∨ cols = 0) → exec (.rowpar rows cols pt) s = .next (raised s .invalidArgument)) ∧
    (rows ≠ 0 → cols ≠ 0 → s.blen.toNat < s.boff.toNat + rows * cols →
      exec (.rowpar rows cols pt) s = .next (raised s .bufferTooShort)) ∧
    (rows ≠ 0 → cols ≠ 0 → s.boff.toNat + rows * cols ≤ s.blen.toNat → ¬ RowsPass (offsetBit s) rows cols pt →
      exec (.rowpar rows cols pt) s = .next (raised s .parityFailed)) ∧
    (rows ≠ 0 → cols ≠ 0 → s.boff.toNat + rows * cols ≤ s.blen.toNat → RowsPass (offsetBit s) rows cols pt →
      exec (.rowpar rows cols pt) s = .next (passed s true))

/-- R85 (with R82, R83, R87): COLPAR, over the columns but the last. -/
def Obligations.ColparOutcome : Prop :=
  ∀ (s : State) (rows cols : Nat) (pt : Bool),
    ((rows = 0 ∨ cols = 0) → exec (.colpar rows cols pt) s = .next (raised s .invalidArgument)) ∧
    (rows ≠ 0 → cols ≠ 0 → s.blen.toNat < s.boff.toNat + rows * cols →
      exec (.colpar rows cols pt) s = .next (raised s .bufferTooShort)) ∧
    (rows ≠ 0 → cols ≠ 0 → s.boff.toNat + rows * cols ≤ s.blen.toNat → ¬ ColsPass (offsetBit s) rows cols pt →
      exec (.colpar rows cols pt) s = .next (raised s .parityFailed)) ∧
    (rows ≠ 0 → cols ≠ 0 → s.boff.toNat + rows * cols ≤ s.blen.toNat → ColsPass (offsetBit s) rows cols pt →
      exec (.colpar rows cols pt) s = .next (passed s true))

/-- R86: BLKPAR passes exactly when both tests pass, and reports zero dimensions and a matrix that does not fit as they
do. -/
def Obligations.BlkparOutcome : Prop :=
  ∀ (s : State) (rows cols : Nat) (pt : Bool),
    ((rows = 0 ∨ cols = 0) → exec (.blkpar rows cols pt) s = .next (raised s .invalidArgument)) ∧
    (rows ≠ 0 → cols ≠ 0 → s.blen.toNat < s.boff.toNat + rows * cols →
      exec (.blkpar rows cols pt) s = .next (raised s .bufferTooShort)) ∧
    (rows ≠ 0 → cols ≠ 0 → s.boff.toNat + rows * cols ≤ s.blen.toNat →
      ¬ (RowsPass (offsetBit s) rows cols pt ∧ ColsPass (offsetBit s) rows cols pt) →
      exec (.blkpar rows cols pt) s = .next (raised s .parityFailed)) ∧
    (rows ≠ 0 → cols ≠ 0 → s.boff.toNat + rows * cols ≤ s.blen.toNat → RowsPass (offsetBit s) rows cols pt →
      ColsPass (offsetBit s) rows cols pt → exec (.blkpar rows cols pt) s = .next (passed s true))

/-- R88 (an inference the spec marks as derived): which test a single flipped bit of a valid matrix fails. The row test
fails exactly when the bit is not in the last row, the column test exactly when it is not in the last column. -/
def Obligations.SingleFlipDetection : Prop :=
  ∀ (bs : List Bool) (rows cols : Nat) (pt : Bool) (r c : Nat), r < rows → c < cols → rows * cols ≤ bs.length →
    rowParityTest bs rows cols pt = .holds → colParityTest bs rows cols pt = .holds →
    let flipped := bs.set (r * cols + c) (!(bs.getD (r * cols + c) false))
    (rowParityTest flipped rows cols pt = if r + 1 < rows then .fails else .holds) ∧
    (colParityTest flipped rows cols pt = if c + 1 < cols then .fails else .holds)

/-! ### Clock and Window Recovery -/

/-- R92, R93 (with R90, R91): PULSES. An empty visible waveform raises BufferTooShort; a flat one, and one without a low
sample after a high one, records nothing; otherwise SKIP0 is the first such low sample, the recorded widths lead from
each low sample to the next, the capture ends at the last one or when PULSE is full (PTRUNC), MINW is the least width,
and only PULSE[0..PLEN) is written. By default the thresholds are the largest and the smallest visible sample: the
spec's own decision D10, which it connects with the firmware from general knowledge (G4). -/
def Obligations.PulsesOutcome : Prop :=
  ∀ s : State,
    (s.wlen.toNat ≤ s.wbase.toNat → exec .pulses s = .next (raised (noPulses s 0) .bufferTooShort)) ∧
    (∀ mx mn, Extremes s mx mn →
      let hi := s.threshHi mx mn
      let lo := s.threshLo mx mn
      (s.params.threshHi = .standard → hi = mx) ∧ (s.params.threshLo = .standard → lo = mn) ∧
      (hi ≤ lo → exec .pulses s = .next (passed (noPulses s s.wlen) false)) ∧
      (lo < hi → (∀ j, ¬ NextLow s hi lo s.wbase.toNat j) →
        exec .pulses s = .next (passed (noPulses s s.wlen) false)) ∧
      (lo < hi → ∀ p, NextLow s hi lo s.wbase.toNat p →
        ∃ (widths : List Nat) (truncated : Bool) (m : Nat) (t : State),
          let start := fun k => p + (widths.take k).sum
          widths.length ≤ s.params.pmax ∧
          (∀ k, k < widths.length → NextLow s hi lo (start k) (start (k + 1))) ∧
          (truncated = true → widths.length = s.params.pmax ∧ ∃ j, NextLow s hi lo (start widths.length) j) ∧
          (truncated = false → ∀ j, ¬ NextLow s hi lo (start widths.length) j) ∧
          (if widths = [] then m = 0 else m ∈ widths ∧ ∀ w ∈ widths, m ≤ w) ∧
          exec .pulses s = .next t ∧
          t = { s with
            skip0 := BitVec.ofNat 32 p
            plen := BitVec.ofNat 32 widths.length
            minw := BitVec.ofNat 32 m
            pulse := t.pulse
            status :=
              { s.status with ptrunc := truncated, err := .none, pass := decide (0 < widths.length) } } ∧
          ∀ k, t.pulseAt k = if k < widths.length then BitVec.ofNat 32 (widths.getD k 0) else s.pulseAt k))

/-- R92, R23 (inferences the spec marks as derived): after PULSES every recorded width is at least 2, MINW is 0 exactly
when nothing was recorded, and the pulses end inside the waveform. -/
def Obligations.RecordedPulsesLieInsideTheWaveform : Prop :=
  ∀ s t : State, exec .pulses s = .next t →
    (∀ k, k < t.plen.toNat → 2 ≤ width t k ∧ t.minw.toNat ≤ width t k) ∧ (t.minw = 0 ↔ t.plen = 0) ∧
    position t t.plen.toNat ≤ t.wlen.toNat

/-- R94, R96: CLKSEL. TOLDIV 0 and an explicit clock outside the candidates raise InvalidArgument; an explicit candidate
is taken; otherwise the smallest candidate whose window holds MINW is taken, and none, or no pulse, raises NoClockFound.
CLK and TOL are 0 after a raise, and nothing else changes. -/
def Obligations.ClkselOutcome : Prop :=
  ∀ (s : State) (clk : Nat),
    let T := s.cfg.toldiv.toNat
    let m := s.minw.toNat
    let none := { s with clk := 0, tol := 0 }
    let chosen := fun p => { s with clk := BitVec.ofNat 32 p, tol := BitVec.ofNat 32 (p / T) }
    (T = 0 → exec (.clksel clk) s = .next (raised none .invalidArgument)) ∧
    (T ≠ 0 → clk ≠ 0 → clk ∉ [8, 16, 32, 40, 50, 64, 128] →
      exec (.clksel clk) s = .next (raised none .invalidArgument)) ∧
    (T ≠ 0 → clk ∈ [8, 16, 32, 40, 50, 64, 128] → exec (.clksel clk) s = .next (passed (chosen clk) true)) ∧
    (T ≠ 0 → s.plen = 0 → exec (.clksel 0) s = .next (raised none .noClockFound)) ∧
    (T ≠ 0 → s.plen ≠ 0 → (∀ p ∈ [8, 16, 32, 40, 50, 64, 128], ¬ Accepts T m p) →
      exec (.clksel 0) s = .next (raised none .noClockFound)) ∧
    (∀ p ∈ [8, 16, 32, 40, 50, 64, 128], T ≠ 0 → s.plen ≠ 0 → Accepts T m p →
      (∀ q ∈ [8, 16, 32, 40, 50, 64, 128], q < p → ¬ Accepts T m q) →
      exec (.clksel 0) s = .next (passed (chosen p) true))

/-- R95 (an inference the spec marks as derived): with TOLDIV 8 the search gives exactly the clocks and tolerances of the
table of acceptance windows. -/
def Obligations.AcceptanceWindowsOfTheResetTolerance : Prop :=
  ∀ s : State, s.cfg.toldiv = 8 → s.plen ≠ 0 → ∃ t, exec (.clksel 0) s = .next t ∧
    (t.clk.toNat, t.tol.toNat) =
      (let m := s.minw.toNat
       if 7 ≤ m ∧ m ≤ 9 then (8, 1)
       else if 14 ≤ m ∧ m ≤ 17 then (16, 2)
       else if 28 ≤ m ∧ m ≤ 33 then (32, 4)
       else if 35 ≤ m ∧ m ≤ 41 then (40, 5)
       else if 44 ≤ m ∧ m ≤ 51 then (50, 6)
       else if 56 ≤ m ∧ m ≤ 65 then (64, 8)
       else if 112 ≤ m ∧ m ≤ 129 then (128, 16)
       else (0, 0))

/-- R97 (an inference the spec marks as derived): the acceptance windows of different candidates are disjoint exactly
when the divisor is at least 6. -/
def Obligations.WindowsAreDisjointFromDivisorSix : Prop :=
  ∀ T, T ≠ 0 →
    ((∀ p ∈ candidates, ∀ q ∈ candidates, p ≠ q → ∀ m, ¬ (inWindow T m p = true ∧ inWindow T m q = true)) ↔ 6 ≤ T)

/-- R100 (with R98, R99, R23): LWFIND. Without a clock NoClockFound; with no marker from PIDX on NoSyncPattern; otherwise
the lowest one, its clamped phase, its sample position, and PIDX just after it. -/
def Obligations.LwfindOutcome : Prop :=
  ∀ s : State,
    let cleared := { s with status := { s.status with found := false } }
    (s.clk = 0 → exec .lwfind s = .next (raised cleared .noClockFound)) ∧
    (s.clk ≠ 0 → NoMarker s s.pidx.toNat → exec .lwfind s = .next (raised cleared .noSyncPattern)) ∧
    (∀ i, s.clk ≠ 0 → LowestMarker s s.pidx.toNat i →
      exec .lwfind s = .next
        { s with
          mkidx := BitVec.ofNat 32 i
          mkph := BitVec.ofNat 32 (phase s i)
          mkpos := BitVec.ofNat 32 (position s i)
          pidx := BitVec.ofNat 32 (i + 4)
          status := { s.status with found := true, err := .none, pass := true } })

/-- R103: LWSYNC is PULSES (from COMPLETE 0), then CLKSEL, then the first marker and the terminating one; the first error
ends it, a missing terminating marker is no error. -/
def Obligations.LwsyncOutcome : Prop :=
  ∀ (s : State) (clk : Nat),
    ∃ a, exec .pulses { s with status := { s.status with complete := false } } = .next a ∧
      (a.status.err ≠ .none → exec (.lwsync clk) s = .next a) ∧
      (a.status.err = .none → ∃ b, exec (.clksel clk) a = .next b ∧
        (b.status.err ≠ .none → exec (.lwsync clk) s = .next b) ∧
        (b.status.err = .none → NoMarker b 0 → exec (.lwsync clk) s = .next (raised b .noSyncPattern)) ∧
        (∀ i, b.status.err = .none → LowestMarker b 0 i →
          (NoMarker b (i + 4) → exec (.lwsync clk) s = .next
            { b with
              m1idx := BitVec.ofNat 32 i, m1ph := BitVec.ofNat 32 (phase b i), pidx := BitVec.ofNat 32 (i + 4) }) ∧
          (∀ j, LowestMarker b (i + 4) j → exec (.lwsync clk) s = .next
            { b with
              m1idx := BitVec.ofNat 32 i, m1ph := BitVec.ofNat 32 (phase b i)
              m2idx := BitVec.ofNat 32 j, pidx := BitVec.ofNat 32 (j + 4)
              status := { b.status with complete := true } })))

/-! ### Block Decoder EM4x50 -/

/-- R112, R114: X50READ begins with LWSYNC; an error there ends it with that error, and with no marker after the first
one the read is Empty: no error, PASS 0, no block. -/
def Obligations.X50readFollowsItsSync : Prop :=
  ∀ (s : State) (clk : Nat), ∃ a, exec (.lwsync clk) (x50Cleared s) = .next a ∧
    (a.status.err ≠ .none → exec (.x50read clk) s = .next a) ∧
    (a.status.err = .none → NoMarker a (a.m1idx.toNat + 4) →
      exec (.x50read clk) s = .next (passed { a with pidx := BitVec.ofNat 32 (a.m1idx.toNat + 4) } false) ∧
      a.nblk = 0 ∧ a.blkpf = 0 ∧ a.status.allPar = true ∧ a.blk = s.blk)

/-- R111, R112, R115, R116, R117: the first block. An empty window raises BufferTooShort without a call. Otherwise WBASE
moves to the block's first bit and the demodulator is asked once for the window up to the next marker: no bits raises
DemodulatorFailed, 1 to 44 bits raise BufferTooShort; with at least 45 and no further marker the read ends with that one
block, its code stored whatever its parity. -/
def Obligations.X50readFirstBlock : Prop :=
  ∀ (s : State) (clk : Nat), ∃ a, exec (.lwsync clk) (x50Cleared s) = .next a ∧
    ∀ j, a.status.err = .none → LowestMarker a (a.m1idx.toNat + 4) j →
      let ds := position a (a.m1idx.toNat + 3) + a.clk.toNat + a.m1ph.toNat
      let be := position a j
      let c := OracleCall.demodAsk .manchester
        { lo := ds, hi := be, samples := (List.range' ds (be - ds)).map a.waveAt } a.clk.toNat false
        a.cfg.maxErr.toNat
      let asked := { a with wbase := BitVec.ofNat 32 ds, calls := a.calls ++ [c], demodIn := a.demodIn.tail }
      (be ≤ ds → exec (.x50read clk) s = .next (raised a .bufferTooShort)) ∧
      (ds < be → (demodAnswerAt a 0 0 c = none ∨ demodAnswerAt a 0 0 c = some []) →
        exec (.x50read clk) s = .next (raised asked .demodulatorFailed)) ∧
      (∀ bs, ds < be → demodAnswerAt a 0 0 c = some bs → bs ≠ [] → bs.length < 45 →
        exec (.x50read clk) s = .next (raised asked .bufferTooShort)) ∧
      (∀ bs, ds < be → demodAnswerAt a 0 0 c = some bs → 45 ≤ bs.length → NoMarker a (j + 4) →
        ∃ (t : State) (code : Word) (ok : Bool), exec (.x50read clk) s = .next t ∧
          IsCode50 code (seqBit bs) ∧ (ok = true ↔ BlockPasses (seqBit bs)) ∧
          t = { asked with
            nblk := 1, blk := s.blk.set 0 code, blkpf := if ok then 1 else 0
            blen := 45, boff := 0, bits := t.bits, pidx := BitVec.ofNat 32 (j + 4)
            status := { a.status with allPar := ok, err := .none, pass := true } } ∧
          ∀ n, t.bitAt n = if n < 45 then seqBit bs n else a.bitAt n)

/-- R111, R112, R114 to R118: X50READ block by block, after an LWSYNC without an error. `marker 0` is the first marker and
`marker (b + 1)` the lowest one after `marker b`; each of the `n` decoded blocks lies between two of them, its window is not
empty, its one call is answered with at least 45 bits, its code is stored whatever its parity. The read ends after six
blocks or where no further marker stands, with PASS for at least one block and PIDX behind the last marker; or at an empty
window, before the call; or at an answer without bits, or with fewer than 45. WBASE is the start of the last window asked
for, BITS the bits of the last block, and nothing else changes. -/
def Obligations.X50readBlocksComeFromTheAnswers : Prop :=
  ∀ (s : State) (clk : Nat), ∃ a, exec (.lwsync clk) (x50Cleared s) = .next a ∧ (a.status.err = .none →
    ∃ (marker : Nat → Nat) (answer : Nat → List Bool) (n calls : Nat) (t : State),
      let start := fun b => blockStart a (marker b)
      let stop := fun b => position a (marker (b + 1))
      let call := fun b => blockCall a (marker b) (marker (b + 1))
      exec (.x50read clk) s = .next t ∧ n ≤ 6 ∧ marker 0 = a.m1idx.toNat ∧
      (∀ b, b < n → LowestMarker a (marker b + 4) (marker (b + 1)) ∧ start b < stop b ∧
        demodAnswerAt a b b (call b) = some (answer b) ∧ 45 ≤ (answer b).length) ∧
      (∀ b, (hb : b < 6) → b < n →
        IsCode50 t.blk[b] (seqBit (answer b)) ∧ (t.blkpf.getLsbD b = true ↔ BlockPasses (seqBit (answer b)))) ∧
      (∀ b, (hb : b < 6) → n ≤ b → t.blk[b] = s.blk[b] ∧ t.blkpf.getLsbD b = false) ∧
      (t.status.allPar = true ↔ ∀ b, b < n → t.blkpf.getLsbD b = true) ∧
      (∀ i, t.bitAt i = if 0 < n ∧ i < 45 then seqBit (answer (n - 1)) i else s.bitAt i) ∧
      t = { a with
        nblk := BitVec.ofNat 32 n, blk := t.blk, blkpf := t.blkpf, bits := t.bits
        blen := if n = 0 then s.blen else 45
        boff := if n = 0 then s.boff else 0
        wbase := if calls = 0 then s.wbase else BitVec.ofNat 32 (start (calls - 1))
        pidx := t.pidx
        calls := s.calls ++ (List.range calls).map call
        demodIn := s.demodIn.drop calls
        status :=
          { a.status with
            allPar := t.status.allPar, err := t.status.err, pass := t.status.pass, errSeen := t.status.errSeen } } ∧
      ((calls = n ∧ (n = 6 ∨ NoMarker a (marker n + 4)) ∧ t.pidx = BitVec.ofNat 32 (marker n + 4) ∧
          t.status.err = .none ∧ t.status.pass = decide (0 < n) ∧ t.status.errSeen = s.status.errSeen) ∨
        (n < 6 ∧ LowestMarker a (marker n + 4) (marker (n + 1)) ∧ t.pidx = a.pidx ∧
          t.status.pass = false ∧ t.status.errSeen = true ∧
          ((calls = n ∧ stop n ≤ start n ∧ t.status.err = .bufferTooShort) ∨
            (calls = n + 1 ∧ start n < stop n ∧
              (((demodAnswerAt a n n (call n) = none ∨ demodAnswerAt a n n (call n) = some []) ∧
                  t.status.err = .demodulatorFailed) ∨
                ∃ r, demodAnswerAt a n n (call n) = some r ∧ r ≠ [] ∧ r.length < 45 ∧
                  t.status.err = .bufferTooShort))))))

/-- R113: a read without a terminating marker has decoded no block. -/
def Obligations.IncompleteReadsHaveNoBlock : Prop :=
  ∀ (s t : State) (clk : Nat), exec (.x50read clk) s = .next t → t.status.complete = false → t.nblk = 0

/-- R118: X50CODE puts the code of the 45 bits at BOFF in WORD, and fails on fewer bits; nothing else changes. -/
def Obligations.X50codeOutcome : Prop :=
  ∀ s : State,
    (s.blen.toNat < s.boff.toNat + 45 → exec .x50code s = .next (raised s .bufferTooShort)) ∧
    (s.boff.toNat + 45 ≤ s.blen.toNat →
      ∃ code, exec .x50code s = .next (passed { s with word := code } true) ∧ IsCode50 code (offsetBit s))

/-! ### Scheme Cascade Decoder EM4x05 -/

/-- R127, R129, R175: before any oracle is called X05DEC raises InvalidArgument for an address above 15, then Timeout
without a response, then BufferTooShort without samples; it has cleared STAGE and STGERR, and kept the address but in the
first case. -/
def Obligations.X05decRefusesBeforeAnyCall : Prop :=
  ∀ (s : State) (addr : Nat) (readCmd : Bool),
    let cleared := { s with stage := { won := 0, tried := 0 }, stgerr := Vector.replicate 8 .none }
    let told := { cleared with addr := BitVec.ofNat 4 addr }
    (15 < addr → exec (.x05dec addr readCmd) s = .next (raised cleared .invalidArgument)) ∧
    (addr ≤ 15 → s.respValid = false → exec (.x05dec addr readCmd) s = .next (raised told .timeout)) ∧
    (addr ≤ 15 → s.respValid = true → s.wlen.toNat ≤ s.wbase.toNat →
      exec (.x05dec addr readCmd) s = .next (raised told .bufferTooShort))

/-- R127, R128, R133, R135 (S6 of the source): when the FSK estimator fails and the PSK1 stage's bits validate, a read
ends there: stage 2 won, stages 1 and 2 tried, three calls in order, no ASK call, the payload in BITS[0..32) and, least
significant bit first, in WORD. -/
def Obligations.X05decReadSucceedsAtPsk1 : Prop :=
  ∀ (s : State) (addr o : Nat) (k : PosClock) (bs : List Bool),
    addr ≤ 15 → s.respValid = true → s.wbase.toNat < s.wlen.toNat →
    clockAnswerAt s 0 0 (.estimateFskClock (visible s)) = none →
    clockAnswerAt s 1 1 (.estimatePskClock (visible s)) = some k →
    demodAnswerAt s 0 2 (.demodPsk (visible s) k.val 1 false) = some bs → ValidRead (seqBit bs) bs.length o →
    ∃ t, exec (.x05dec addr true) s = .next t ∧
      t = { s with
        addr := BitVec.ofNat 4 addr, stage := { won := 2, tried := 3 }
        stgerr := (Vector.replicate 8 .none).set 0 .demodulatorFailed
        preoff := BitVec.ofNat 32 o, word := t.word, blen := 32, boff := 0, bits := t.bits
        clockIn := s.clockIn.drop 2, demodIn := s.demodIn.drop 1
        calls := s.calls ++ [.estimateFskClock (visible s), .estimatePskClock (visible s),
          .demodPsk (visible s) k.val 1 false]
        status := { s.status with err := .none, pass := true } } ∧
      ReadStored (seqBit bs) o s t

/-- R127: a write acknowledgement that validates at the FSK stage keeps the stage's own bits, cut to BMAX, in BITS. -/
def Obligations.X05decAcknowledgesAtFsk : Prop :=
  ∀ (s : State) (addr o : Nat) (k : PosClock) (bs : List Bool),
    addr ≤ 15 → s.respValid = true → s.wbase.toNat < s.wlen.toNat →
    clockAnswerAt s 0 0 (.estimateFskClock (visible s)) = some k →
    demodAnswerAt s 0 1 (.demodFsk (visible s) k.val) = some bs → FirstPreamble (seqBit bs) bs.length o →
    ∃ t, exec (.x05dec addr false) s = .next t ∧
      t = { s with
        addr := BitVec.ofNat 4 addr, stage := { won := 1, tried := 1 }, stgerr := Vector.replicate 8 .none
        preoff := BitVec.ofNat 32 o, blen := BitVec.ofNat 32 (min bs.length s.params.bmax), boff := 0
        bits := t.bits, clockIn := s.clockIn.drop 1, demodIn := s.demodIn.drop 1
        calls := s.calls ++ [.estimateFskClock (visible s), .demodFsk (visible s) k.val]
        status := { s.status with err := .none, pass := true } } ∧
      ∀ n, t.bitAt n = if n < min bs.length s.params.bmax then seqBit bs n else s.bitAt n

/-- R127, R128, R130, R131, R133, R135: X05DEC for every stage at which it can end. Stage by stage the bits and the calls
are the table's, stages 3 and 5 remapping the raw bits of stages 2 and 4 (by the transition map where that is the
default: general knowledge, G1). `stop` is the first stage that validates, 9 if none does; every stage before it fails with
the kind STGERR keeps, no later one is tried or asked. A read stores the payload of the stage's bits, a write
acknowledgement the stage's own bits, cut to BMAX; without a winner the command ends with DecodeFailed. Nothing else
changes. -/
def Obligations.X05decEndsAtTheFirstStageThatValidates : Prop :=
  ∀ (s : State) (addr : Nat) (readCmd : Bool), addr ≤ 15 → s.respValid = true → s.wbase.toNat < s.wlen.toNat →
    (s.params.psk2map = .standard → ∀ bs, s.psk1ToPsk2 bs = transitionMap bs) ∧
    ∃ (bits : Nat → Option (List Bool)) (calls : Nat → List OracleCall) (kind : Nat → ErrKind) (stop : Nat) (t : State),
      let made := calls (min stop 8 + 1)
      let told := { s with
        addr := BitVec.ofNat 4 addr, stgerr := t.stgerr, calls := s.calls ++ made
        clockIn := s.clockIn.drop (made.countP isEstimate)
        demodIn := s.demodIn.drop (made.countP (fun c => !isEstimate c)) }
      1 ≤ stop ∧ stop ≤ 9 ∧ calls 1 = [] ∧
      (∀ k, 1 ≤ k → k ≤ min stop 8 →
        bits k = (stageRow s (calls k) bits k).1 ∧ calls (k + 1) = calls k ++ (stageRow s (calls k) bits k).2) ∧
      (∀ k, 1 ≤ k → k < stop → StageFails (bits k) readCmd (kind k)) ∧
      exec (.x05dec addr readCmd) s = .next t ∧
      (∀ k, (hk : k < 8) → t.stgerr[k] = if k + 1 < stop then kind (k + 1) else .none) ∧
      (stop = 9 → t = raised { told with stage := { won := 0, tried := 0xFF } } .decodeFailed) ∧
      (stop ≤ 8 → ∃ bs o, bits stop = some bs ∧ StageValidates bs readCmd o ∧
        t = passed { told with
          stage := { won := BitVec.ofNat 4 stop, tried := BitVec.ofNat 8 (2 ^ stop - 1) }
          preoff := BitVec.ofNat 32 o, word := t.word, boff := 0, bits := t.bits
          blen := if readCmd then 32 else BitVec.ofNat 32 (min bs.length s.params.bmax) } true ∧
        (readCmd = true → ReadStored (seqBit bs) o s t) ∧
        (readCmd = false → t.word = s.word ∧
          ∀ n, t.bitAt n = if n < min bs.length s.params.bmax then seqBit bs n else s.bitAt n))

/-- R127, R130: when every estimator and demodulator fails, the cascade makes exactly six calls in order, marks all eight
stages tried and failed, and ends with DecodeFailed; nothing else changes. -/
def Obligations.X05decFailsWhenEveryStageFails : Prop :=
  ∀ (s : State) (addr : Nat) (readCmd : Bool),
    addr ≤ 15 → s.respValid = true → s.wbase.toNat < s.wlen.toNat →
    clockAnswerAt s 0 0 (.estimateFskClock (visible s)) = none →
    clockAnswerAt s 1 1 (.estimatePskClock (visible s)) = none →
    clockAnswerAt s 2 2 (.estimatePskClock (visible s)) = none →
    demodAnswerAt s 0 3 (.demodAsk .manchester (visible s) 0 false s.cfg.maxErr.toNat) = none →
    demodAnswerAt s 1 4 (.demodAsk .biphase (visible s) 0 false s.cfg.maxErr.toNat) = none →
    demodAnswerAt s 2 5 (.demodAsk .biphase (visible s) 0 true s.cfg.maxErr.toNat) = none →
    exec (.x05dec addr readCmd) s = .next (raised
      { s with
        addr := BitVec.ofNat 4 addr, stage := { won := 0, tried := 0xFF }
        stgerr := Vector.replicate 8 .demodulatorFailed, clockIn := s.clockIn.drop 3, demodIn := s.demodIn.drop 3
        calls := s.calls ++ [.estimateFskClock (visible s), .estimatePskClock (visible s),
          .estimatePskClock (visible s), .demodAsk .manchester (visible s) 0 false s.cfg.maxErr.toNat,
          .demodAsk .biphase (visible s) 0 false s.cfg.maxErr.toNat,
          .demodAsk .biphase (visible s) 0 true s.cfg.maxErr.toNat] } .decodeFailed)

/-- R16, R17, R127, R128, R130: whatever the collaborators answer, STAGE and STGERR record the cascade. The tried stages
are those up to the winner (all of them without one), exactly the stages before the winner hold an error kind, one of the
four a stage can fail with; a failed cascade leaves BITS, BLEN, BOFF, WORD and PREOFF unchanged; and no ASK call is made
when a stage before the sixth wins. -/
def Obligations.X05decRecordsTheCascade : Prop :=
  ∀ (s t : State) (addr : Nat) (readCmd : Bool), exec (.x05dec addr readCmd) s = .next t →
    addr ≤ 15 → s.respValid = true → s.wbase.toNat < s.wlen.toNat →
    let won := t.stage.won.toNat
    won ≤ 8 ∧ t.addr.toNat = addr ∧
    (won = 0 → t.status.err = .decodeFailed) ∧ (won ≠ 0 → t.status.err = .none ∧ t.status.pass = true) ∧
    (∀ k, k < 8 → (t.stage.tried.getLsbD k = true ↔ won = 0 ∨ k < won)) ∧
    (∀ k, (hk : k < 8) → (t.stgerr[k] ≠ .none ↔ won = 0 ∨ k + 1 < won)) ∧
    (∀ k, (hk : k < 8) →
      t.stgerr[k] ∈ [ErrKind.none, .demodulatorFailed, .preambleNotFound, .parityFailed, .bufferTooShort]) ∧
    (won = 0 → t.bits = s.bits ∧ t.blen = s.blen ∧ t.boff = s.boff ∧ t.word = s.word ∧ t.preoff = s.preoff) ∧
    (∃ cs, t.calls = s.calls ++ cs ∧ (won ≠ 0 → won ≤ 5 → ∀ c ∈ cs, isAsk c = false))

/-- R133 (with R126, R135): X05TEST, over the bits from BOFF on. -/
def Obligations.X05testOutcome : Prop :=
  ∀ s : State,
    let bit := offsetBit s
    let len := s.blen.toNat - s.boff.toNat
    (∀ rc, s.blen.toNat < s.boff.toNat → exec (.x05test rc) s = .next (raised s .bufferTooShort)) ∧
    (∀ rc, s.boff.toNat ≤ s.blen.toNat → (∀ o, o < 14 → ¬ PreambleAt bit len o) →
      exec (.x05test rc) s = .next (raised s .preambleNotFound)) ∧
    (∀ o, s.boff.toNat ≤ s.blen.toNat → FirstPreamble bit len o →
      exec (.x05test false) s = .next (passed { s with preoff := BitVec.ofNat 32 o } true)) ∧
    (∀ o, s.boff.toNat ≤ s.blen.toNat → FirstPreamble bit len o → len < o + 51 →
      exec (.x05test true) s = .next (raised s .bufferTooShort)) ∧
    (∀ o, s.boff.toNat ≤ s.blen.toNat → FirstPreamble bit len o → o + 51 ≤ len →
      ¬ BlockPasses (fun i => bit (o + 6 + i)) → exec (.x05test true) s = .next (raised s .parityFailed)) ∧
    (∀ o, s.boff.toNat ≤ s.blen.toNat → ValidRead bit len o →
      ∃ t, exec (.x05test true) s = .next t ∧
        t = passed
          { s with preoff := BitVec.ofNat 32 o, word := t.word, blen := 32, boff := 0, bits := t.bits } true ∧
        ReadStored bit o s t)

/-- R131, with the default map, which the spec takes from general knowledge (G1): PSK2MAP replaces each visible bit but
the first by its XOR with the bit before it, all as they were before the command; other bits, and for any other map the
bits outside the visible part, stay. -/
def Obligations.Psk2mapOutcome : Prop :=
  ∀ s : State,
    (s.blen.toNat < s.boff.toNat → exec .psk2map s = .next (raised s .bufferTooShort)) ∧
    (s.boff.toNat ≤ s.blen.toNat → ∃ t, exec .psk2map s = .next t ∧ t = passed { s with bits := t.bits } true ∧
      (∀ n, (n < s.boff.toNat ∨ s.blen.toNat ≤ n) → t.bitAt n = s.bitAt n) ∧
      (s.params.psk2map = .standard → ∀ n, s.boff.toNat ≤ n → n < s.blen.toNat →
        t.bitAt n = if n = s.boff.toNat then s.bitAt n else (s.bitAt n ^^ s.bitAt (n - 1))))

/-- R140: X05INFO writes the four chip information registers and nothing else; with the default positions, which the
spec takes from general knowledge (G2), they are bits 4:1, 6:5 and 18:9 of word 0, and word 1. -/
def Obligations.X05infoOutcome : Prop :=
  ∀ s : State, ∃ c : ChipInfo,
    exec .x05info s = .next (passed
      { s with chiptype := c.chipType, captype := c.capType, custcode := c.custCode, serial := c.serial } true) ∧
    (s.params.chipInfo = .standard →
      c.chipType = (s.x[0].extractLsb' 1 4).setWidth 32 ∧ c.capType = (s.x[0].extractLsb' 5 2).setWidth 32 ∧
      c.custCode = (s.x[0].extractLsb' 9 10).setWidth 32 ∧ c.serial = s.x[1])

/-! ### Frame Codec EM410x -/

/-- R150, R151, R152, R153 (header and stop values, bit order and pulse shape are the spec's from general knowledge, G3,
G5, G6): E410ENC. The ID is x[1]:x[0]. Errors write nothing but STATUS. Otherwise BITS[0..64) is the frame and
WAVE[0..64*clk) its samples, and only those elements and BLEN, BOFF, WLEN, WBASE change. By default each bit is its
complement for the first half of the clock and then itself. A sample that a fixed SAMPLE_W cannot hold, which at the
default is the case for a width of 1 alone, is a free one in range (log 17). -/
def Obligations.E410encOutcome : Prop :=
  ∀ (s : State) (clk : Nat),
    let id : BitVec 64 := s.x[1] ++ s.x[0]
    (2 ^ 40 ≤ id.toNat → exec (.e410enc clk) s = .next (raised s .invalidArgument)) ∧
    (clk ∉ [8, 16, 32, 40, 50, 64, 128] → exec (.e410enc clk) s = .next (raised s .invalidArgument)) ∧
    (id.toNat < 2 ^ 40 → clk ∈ [8, 16, 32, 40, 50, 64, 128] → s.params.wmax < 64 * clk →
      exec (.e410enc clk) s = .next (raised s .bufferTooShort)) ∧
    (id.toNat < 2 ^ 40 → clk ∈ [8, 16, 32, 40, 50, 64, 128] → 64 * clk ≤ s.params.wmax →
      ∃ t, exec (.e410enc clk) s = .next t ∧
        t = passed
          { s with
            blen := 64, boff := 0, wlen := BitVec.ofNat 32 (64 * clk), wbase := 0, bits := t.bits
            wave := t.wave } true ∧
        (∀ k, k < 9 → t.bitAt k = true) ∧
        (∀ n j, n < 10 → j < 4 → t.bitAt (9 + 5 * n + j) = id.getLsbD (39 - 4 * n - j)) ∧
        (∀ n, n < 10 → ones (fun j => t.bitAt (9 + 5 * n + j)) 5 % 2 = 0) ∧
        (∀ j, j < 4 → ones (fun n => t.bitAt (9 + 5 * n + j)) 11 % 2 = 0) ∧
        t.bitAt 63 = false ∧
        (∀ k, 64 ≤ k → t.bitAt k = s.bitAt k) ∧
        (∀ k i, k < 64 → i < clk → InSampleRange s (t.waveAt (k * clk + i)) ∧
          (InSampleRange s (s.pulseShape (t.bitAt k) clk i) →
            t.waveAt (k * clk + i) = s.pulseShape (t.bitAt k) clk i) ∧
          (s.params.pulseShape = .standard → (∀ w, s.params.sampleWidth = some w → 2 ≤ w) →
            t.waveAt (k * clk + i) =
              if i < clk / 2 then ((!t.bitAt k).toNat : Int) else ((t.bitAt k).toNat : Int))) ∧
        (∀ i, 64 * clk ≤ i → t.waveAt i = s.waveAt i))

/-- R156, R158: E410DEC. A nonzero XLHI is a found-only report; otherwise length, header, stop bit and both parities are
checked in this order, and a valid frame gives the 40-bit ID, first data bit most significant. -/
def Obligations.E410decOutcome : Prop :=
  ∀ s : State,
    let f := offsetBit s
    let short := s.blen.toNat < s.boff.toNat + 64
    let headerOk := ∀ k, k < 9 → f k = true
    let parityOk := RowsPass (fun i => f (9 + i)) 11 5 false ∧ ColsPass (fun i => f (9 + i)) 11 5 false
    (s.xlhi ≠ 0 → exec .e410dec s = .next (passed
      { s with status := { s.status with found := true, idValid := false } } true)) ∧
    (s.xlhi = 0 → short → exec .e410dec s = .next (raised (e410Cleared s) .bufferTooShort)) ∧
    (s.xlhi = 0 → ¬ short → ¬ (headerOk ∧ f 63 = false) →
      exec .e410dec s = .next (raised (e410Cleared s) .frameError)) ∧
    (s.xlhi = 0 → ¬ short → headerOk → f 63 = false → ¬ parityOk →
      exec .e410dec s = .next (raised (e410Cleared s) .parityFailed)) ∧
    (s.xlhi = 0 → ¬ short → headerOk → f 63 = false → parityOk →
      ∃ id : BitVec 40, (∀ n j, n < 10 → j < 4 → id.getLsbD (39 - 4 * n - j) = f (9 + 5 * n + j)) ∧
        exec .e410dec s = .next (passed
          { s with
            idlo := id.extractLsb' 0 32, idhi := id.extractLsb' 32 8
            status := { s.status with found := true, idValid := true } } true))

/-- R157 (an inference the spec marks as derived): for every ID below 2^40 and every clock E410ENC accepts, E410DEC on
what E410ENC wrote succeeds with that ID. -/
def Obligations.E410RoundTrip : Prop :=
  ∀ (s : State) (clk : Nat),
    s.x[1].toNat * 2 ^ 32 + s.x[0].toNat < 2 ^ 40 → clk ∈ candidates → 64 * clk ≤ s.params.wmax → s.xlhi = 0 →
    ∃ t u, exec (.e410enc clk) s = .next t ∧ exec .e410dec t = .next u ∧
      u.status.err = .none ∧ u.status.pass = true ∧ u.status.found = true ∧ u.status.idValid = true ∧
      u.idlo = s.x[0] ∧ u.idhi.toNat = s.x[1].toNat

/-- R160: E410WCHK passes exactly for the clocks 16, 32, 40, 64 and an ID below 0x10000000000, raises InvalidArgument
otherwise, and changes nothing but STATUS. -/
def Obligations.E410wchkOutcome : Prop :=
  ∀ (s : State) (clk : Nat),
    let id : BitVec 64 := s.x[1] ++ s.x[0]
    (clk ∈ [16, 32, 40, 64] → id.toNat < 0x10000000000 → exec (.e410wchk clk) s = .next (passed s true)) ∧
    (clk ∉ [16, 32, 40, 64] ∨ 0x10000000000 ≤ id.toNat →
      exec (.e410wchk clk) s = .next (raised s .invalidArgument))
end

