-- ==== Sys2Proof/Laws/Memory.lean ====
section
/-! SUPPORT. The laws of the buffers: read after write, ranges as element reads, and that every operation keeps the
canonical form and the capacity (20_memory.md R41; log 10). None of the read laws needs the canonical form. -/

namespace Sys2Proof.Machine.Memory

variable {α : Type}

theorem dropBelow_cons (k : Nat) (v : α) (m : Memory α) (i : Nat) :
    dropBelow ((k, v) :: m) i = if k < i then dropBelow m i else (k, v) :: m := by
  by_cases h : k < i <;> simp [dropBelow, h]

theorem dropBelow_dropBelow (m : Memory α) {i j : Nat} (h : i ≤ j) :
    dropBelow (dropBelow m i) j = dropBelow m j := by
  induction m with
  | nil => rfl
  | cons c m ih =>
    obtain ⟨k, v⟩ := c
    by_cases hk : k < i
    · have hkj : k < j := by omega
      simp [dropBelow_cons, hk, hkj, ih]
    · simp [dropBelow_cons, hk]

theorem read?_dropBelow (m : Memory α) {i j : Nat} (h : i ≤ j) : read? (dropBelow m i) j = read? m j := by
  simp [read?, dropBelow_dropBelow m h]

/-- A range is the reads of its elements in order. -/
theorem slice_eq_map (free : Nat → α) (m : Memory α) (i n : Nat) :
    slice free m i n = (List.range' i n).map (fun j => (read? m j).getD (free j)) := by
  induction n generalizing m i with
  | zero => rfl
  | succ n ih =>
    simp only [slice, List.range'_succ, List.map_cons, ih]
    congr 1
    apply List.map_congr_left
    intro j hj
    have : i ≤ j := by have := List.mem_range'.1 hj; omega
    rw [read?_dropBelow m this]

@[simp] theorem length_slice (free : Nat → α) (m : Memory α) (i n : Nat) : (slice free m i n).length = n := by
  simp [slice_eq_map]

theorem dropBelow_takeWhile_append (m q : Memory α) {i j : Nat} (h : i ≤ j) :
    dropBelow (m.takeWhile (·.1 < i) ++ q) j = dropBelow q j := by
  induction m with
  | nil => rfl
  | cons c m ih =>
    obtain ⟨k, v⟩ := c
    by_cases hk : k < i
    · have hkj : k < j := by omega
      simp [hk, dropBelow_cons, hkj, ih]
    · simp [hk]

theorem dropBelow_cells_append (i : Nat) (vs : List α) (q : Memory α) {j : Nat} (h : i + vs.length ≤ j) :
    dropBelow (cells i vs ++ q) j = dropBelow q j := by
  induction vs generalizing i with
  | nil => rfl
  | cons v vs ih =>
    simp only [List.length_cons] at h
    have hij : i < j := by omega
    simp only [cells, List.cons_append, dropBelow_cons, hij, if_true]
    exact ih (i + 1) (by omega)

theorem read?_cells_append (i : Nat) (vs : List α) (q : Memory α) (k : Nat) (h : k < vs.length) :
    read? (cells i vs ++ q) (i + k) = vs[k]? := by
  induction vs generalizing i k with
  | nil => simp at h
  | cons v vs ih =>
    cases k with
    | zero => simp [cells, read?, dropBelow_cons]
    | succ k =>
      have := ih (i + 1) k (by simpa using h)
      have hi : i < i + (k + 1) := by omega
      have e : i + 1 + k = i + (k + 1) := by omega
      simpa [cells, read?, dropBelow_cons, hi, e] using this

/-- A stored element reads back. -/
theorem read?_write_inside (m : Memory α) (i : Nat) (vs : List α) (k : Nat) (h : k < vs.length) :
    read? (write m i vs) (i + k) = vs[k]? := by
  have hi : i ≤ i + k := by omega
  have := read?_cells_append i vs (dropBelow m (i + vs.length)) k h
  unfold read? at this ⊢
  rw [write, List.append_assoc, dropBelow_takeWhile_append m _ hi]
  exact this

theorem read?_write_above (m : Memory α) (i : Nat) (vs : List α) (j : Nat) (h : i + vs.length ≤ j) :
    read? (write m i vs) j = read? m j := by
  have hi : i ≤ j := by omega
  unfold read?
  rw [write, List.append_assoc, dropBelow_takeWhile_append m _ hi, dropBelow_cells_append i vs _ h,
    dropBelow_dropBelow m h]

theorem read?_append_above (p q : Memory α) (j : Nat) (hq : ∀ c, q.head? = some c → j < c.1) :
    read? (p ++ q) j = read? p j := by
  induction p with
  | nil =>
    cases q with
    | nil => rfl
    | cons c q =>
      obtain ⟨k, v⟩ := c
      have hk : j < k := by simpa using hq (k, v) rfl
      have h1 : ¬ k < j := by omega
      have h2 : ¬ k = j := by omega
      simp [read?, h1, h2, dropBelow]
  | cons c p ih =>
    obtain ⟨k, v⟩ := c
    by_cases hk : k < j
    · simpa [read?, dropBelow_cons, hk] using ih
    · simp [read?, dropBelow_cons, hk]

theorem head_dropBelow (m : Memory α) (i : Nat) (c : Nat × α) (h : (dropBelow m i).head? = some c) : i ≤ c.1 := by
  induction m with
  | nil => simp [dropBelow] at h
  | cons d m ih =>
    obtain ⟨k, v⟩ := d
    by_cases hk : k < i
    · simp only [dropBelow_cons, hk, if_true] at h
      exact ih h
    · simp only [dropBelow_cons, hk, if_false, List.head?_cons, Option.some.injEq] at h
      subst h
      simpa using hk

theorem takeWhile_append_dropBelow (m : Memory α) (i : Nat) : m.takeWhile (·.1 < i) ++ dropBelow m i = m :=
  List.takeWhile_append_dropWhile

/-- Below a store every element reads as before. -/
theorem read?_write_below (m : Memory α) (i : Nat) (vs : List α) (j : Nat) (h : j < i) :
    read? (write m i vs) j = read? m j := by
  have hhead : ∀ c, (cells i vs ++ dropBelow m (i + vs.length)).head? = some c → j < c.1 := by
    intro c hc
    cases vs with
    | nil =>
      have := head_dropBelow m i c (by simpa [cells] using hc)
      omega
    | cons v vs =>
      simp only [cells, List.cons_append, List.head?_cons, Option.some.injEq] at hc
      subst hc
      exact h
  have e : read? m j = read? (m.takeWhile (·.1 < i)) j := by
    conv_lhs => rw [← takeWhile_append_dropBelow m i]
    exact read?_append_above _ _ j (fun c hc => lt_of_lt_of_le h (head_dropBelow m i c hc))
  rw [write, List.append_assoc, read?_append_above _ _ j hhead, e]

/-- Everything a store does: the stored elements read as stored, all others as before. -/
theorem read?_write (m : Memory α) (i : Nat) (vs : List α) (j : Nat) :
    read? (write m i vs) j = if i ≤ j ∧ j < i + vs.length then vs[j - i]? else read? m j := by
  by_cases h1 : j < i
  · rw [read?_write_below m i vs j h1, if_neg (by omega)]
  · by_cases h2 : j < i + vs.length
    · have := read?_write_inside m i vs (j - i) (by omega)
      rw [show i + (j - i) = j by omega] at this
      rw [this, if_pos ⟨by omega, h2⟩]
    · rw [read?_write_above m i vs j (by omega), if_neg (by omega)]

theorem dropBelow_sublist (m : Memory α) (i : Nat) : (dropBelow m i).Sublist m := List.dropWhile_sublist _

theorem mem_cells {i : Nat} {vs : List α} {c : Nat × α} (h : c ∈ cells i vs) : i ≤ c.1 ∧ c.1 < i + vs.length := by
  induction vs generalizing i with
  | nil => simp [cells] at h
  | cons v vs ih =>
    simp only [cells, List.mem_cons] at h
    rcases h with rfl | h
    · simp
    · have := ih h
      simp only [List.length_cons]
      omega

theorem value_mem_of_mem_cells {i : Nat} {vs : List α} {c : Nat × α} (h : c ∈ cells i vs) : c.2 ∈ vs := by
  induction vs generalizing i with
  | nil => cases h
  | cons v vs ih =>
    rcases List.mem_cons.1 h with rfl | h
    · exact List.mem_cons_self
    · exact List.mem_cons_of_mem v (ih h)

/-- What is listed after a store was listed before or has been stored. -/
theorem mem_write {m : Memory α} {i : Nat} {vs : List α} {c : Nat × α} (h : c ∈ write m i vs) : c ∈ m ∨ c.2 ∈ vs := by
  rcases List.mem_append.1 h with h | h
  · rcases List.mem_append.1 h with h | h
    · exact .inl ((List.takeWhile_sublist _).subset h)
    · exact .inr (value_mem_of_mem_cells h)
  · exact .inl ((dropBelow_sublist m _).subset h)

/-- A written value that is read is listed. -/
theorem mem_of_read? {m : Memory α} {i : Nat} {v : α} (h : read? m i = some v) : (i, v) ∈ m := by
  unfold read? at h
  split at h
  · cases h
  · rename_i k w rest e
    split at h
    · rename_i hk
      cases h
      subst hk
      exact (dropBelow_sublist m k).subset (by simp [e])
    · cases h

theorem wf_cells (i : Nat) (vs : List α) : wf (cells i vs) := by
  induction vs generalizing i with
  | nil => exact List.Pairwise.nil
  | cons v vs ih =>
    simp only [wf, cells, List.map_cons, List.pairwise_cons]
    refine ⟨?_, ih (i + 1)⟩
    intro k hk
    obtain ⟨c, hc, rfl⟩ := List.mem_map.1 hk
    have := mem_cells hc
    omega

theorem wf_dropBelow {m : Memory α} (h : wf m) (i : Nat) : wf (dropBelow m i) :=
  h.sublist ((dropBelow_sublist m i).map Prod.fst)

theorem le_of_mem_dropBelow {m : Memory α} (h : wf m) {i : Nat} {c : Nat × α} (hc : c ∈ dropBelow m i) : i ≤ c.1 := by
  have hw := wf_dropBelow h i
  cases hd : dropBelow m i with
  | nil => simp [hd] at hc
  | cons d q =>
    have h0 := head_dropBelow m i d (by simp [hd])
    rw [hd] at hc hw
    simp only [wf, List.map_cons, List.pairwise_cons] at hw
    rcases List.mem_cons.1 hc with rfl | hc
    · exact h0
    · have := hw.1 c.1 (List.mem_map.2 ⟨c, hc, rfl⟩)
      omega

theorem lt_of_mem_takeWhile {m : Memory α} {i : Nat} {c : Nat × α} (hc : c ∈ m.takeWhile (·.1 < i)) : c.1 < i := by
  have := List.mem_takeWhile_imp hc
  simpa using this

/-- A store keeps the canonical form. -/
theorem wf_write {m : Memory α} (h : wf m) (i : Nat) (vs : List α) : wf (write m i vs) := by
  have h1 : wf (m.takeWhile (·.1 < i)) := h.sublist ((List.takeWhile_sublist _).map Prod.fst)
  have h2 := wf_cells i vs
  have h3 := wf_dropBelow h (i + vs.length)
  unfold write
  simp only [wf, List.map_append, List.pairwise_append] at h1 h2 h3 ⊢
  refine ⟨⟨h1, h2, ?_⟩, h3, ?_⟩
  · intro a ha b hb
    obtain ⟨c, hc, rfl⟩ := List.mem_map.1 ha
    obtain ⟨d, hd, rfl⟩ := List.mem_map.1 hb
    have := lt_of_mem_takeWhile hc
    have := mem_cells hd
    omega
  · intro a ha b hb
    obtain ⟨d, hd, rfl⟩ := List.mem_map.1 hb
    have hd' := le_of_mem_dropBelow h hd
    rcases List.mem_append.1 ha with ha | ha
    · obtain ⟨c, hc, rfl⟩ := List.mem_map.1 ha
      have := lt_of_mem_takeWhile hc
      omega
    · obtain ⟨c, hc, rfl⟩ := List.mem_map.1 ha
      have := mem_cells hc
      omega

/-- A store inside the capacity keeps the canonical form and the capacity. -/
theorem Fits.write {m : Memory α} {cap : Nat} (h : Fits m cap) (i : Nat) (vs : List α)
    (hcap : i + vs.length ≤ cap) : Fits (Memory.write m i vs) cap := by
  refine ⟨wf_write h.canonical i vs, ?_⟩
  intro c hc
  rcases List.mem_append.1 hc with hc | hc
  · rcases List.mem_append.1 hc with hc | hc
    · exact h.inside c ((List.takeWhile_sublist _).subset hc)
    · have := mem_cells hc
      omega
  · exact h.inside c ((dropBelow_sublist m _).subset hc)

/-- An empty buffer is canonical and inside every capacity. -/
theorem Fits.nil (cap : Nat) : Fits ([] : Memory α) cap := ⟨List.Pairwise.nil, by simp⟩

end Sys2Proof.Machine.Memory

namespace Sys2Proof.Machine

theorem State.waveRange_eq_map (s : State) (a b : Nat) :
    s.waveRange a b = (List.range' a (b - a)).map s.waveAt := Memory.slice_eq_map _ _ _ _

theorem State.bitRange_eq_map (s : State) (a b : Nat) :
    s.bitRange a b = (List.range' a (b - a)).map s.bitAt := Memory.slice_eq_map _ _ _ _

theorem State.pulseRange_eq_map (s : State) (a b : Nat) :
    s.pulseRange a b = (List.range' a (b - a)).map s.pulseAt := Memory.slice_eq_map _ _ _ _

@[simp] theorem State.length_waveRange (s : State) (a b : Nat) : (s.waveRange a b).length = b - a := by
  simp [State.waveRange]

@[simp] theorem State.length_bitRange (s : State) (a b : Nat) : (s.bitRange a b).length = b - a := by
  simp [State.bitRange]

@[simp] theorem State.length_pulseRange (s : State) (a b : Nat) : (s.pulseRange a b).length = b - a := by
  simp [State.pulseRange]

/-- Reset lists nothing, so its buffers are canonical. -/
theorem reset_buffers_fit : Memory.Fits State.reset.wave State.reset.params.wmax ∧
    Memory.Fits State.reset.pulse State.reset.params.pmax ∧ Memory.Fits State.reset.bits State.reset.params.bmax :=
  ⟨Memory.Fits.nil _, Memory.Fits.nil _, Memory.Fits.nil _⟩

end Sys2Proof.Machine
end

