-- ==== Sys2Proof/Laws/State.lean ====
section
/-! SUPPORT. What each shared update of State does to each field: one lemma per field and update, true by rfl, so that
no proof unfolds a record update. -/

namespace Sys2Proof.Machine

/-! ### State.raise -/

@[simp] theorem State.raise_x (s : State) (k : ErrKind) : (s.raise k).x = s.x := rfl
@[simp] theorem State.raise_status (s : State) (k : ErrKind) : (s.raise k).status = s.status.raise k := rfl
@[simp] theorem State.raise_cfg (s : State) (k : ErrKind) : (s.raise k).cfg = s.cfg := rfl
@[simp] theorem State.raise_respValid (s : State) (k : ErrKind) : (s.raise k).respValid = s.respValid := rfl
@[simp] theorem State.raise_wlen (s : State) (k : ErrKind) : (s.raise k).wlen = s.wlen := rfl
@[simp] theorem State.raise_wbase (s : State) (k : ErrKind) : (s.raise k).wbase = s.wbase := rfl
@[simp] theorem State.raise_blen (s : State) (k : ErrKind) : (s.raise k).blen = s.blen := rfl
@[simp] theorem State.raise_boff (s : State) (k : ErrKind) : (s.raise k).boff = s.boff := rfl
@[simp] theorem State.raise_plen (s : State) (k : ErrKind) : (s.raise k).plen = s.plen := rfl
@[simp] theorem State.raise_pidx (s : State) (k : ErrKind) : (s.raise k).pidx = s.pidx := rfl
@[simp] theorem State.raise_minw (s : State) (k : ErrKind) : (s.raise k).minw = s.minw := rfl
@[simp] theorem State.raise_skip0 (s : State) (k : ErrKind) : (s.raise k).skip0 = s.skip0 := rfl
@[simp] theorem State.raise_clk (s : State) (k : ErrKind) : (s.raise k).clk = s.clk := rfl
@[simp] theorem State.raise_tol (s : State) (k : ErrKind) : (s.raise k).tol = s.tol := rfl
@[simp] theorem State.raise_mkidx (s : State) (k : ErrKind) : (s.raise k).mkidx = s.mkidx := rfl
@[simp] theorem State.raise_mkph (s : State) (k : ErrKind) : (s.raise k).mkph = s.mkph := rfl
@[simp] theorem State.raise_mkpos (s : State) (k : ErrKind) : (s.raise k).mkpos = s.mkpos := rfl
@[simp] theorem State.raise_m1idx (s : State) (k : ErrKind) : (s.raise k).m1idx = s.m1idx := rfl
@[simp] theorem State.raise_m1ph (s : State) (k : ErrKind) : (s.raise k).m1ph = s.m1ph := rfl
@[simp] theorem State.raise_m2idx (s : State) (k : ErrKind) : (s.raise k).m2idx = s.m2idx := rfl
@[simp] theorem State.raise_nblk (s : State) (k : ErrKind) : (s.raise k).nblk = s.nblk := rfl
@[simp] theorem State.raise_blkpf (s : State) (k : ErrKind) : (s.raise k).blkpf = s.blkpf := rfl
@[simp] theorem State.raise_blk (s : State) (k : ErrKind) : (s.raise k).blk = s.blk := rfl
@[simp] theorem State.raise_word (s : State) (k : ErrKind) : (s.raise k).word = s.word := rfl
@[simp] theorem State.raise_addr (s : State) (k : ErrKind) : (s.raise k).addr = s.addr := rfl
@[simp] theorem State.raise_stage (s : State) (k : ErrKind) : (s.raise k).stage = s.stage := rfl
@[simp] theorem State.raise_stgerr (s : State) (k : ErrKind) : (s.raise k).stgerr = s.stgerr := rfl
@[simp] theorem State.raise_preoff (s : State) (k : ErrKind) : (s.raise k).preoff = s.preoff := rfl
@[simp] theorem State.raise_idlo (s : State) (k : ErrKind) : (s.raise k).idlo = s.idlo := rfl
@[simp] theorem State.raise_idhi (s : State) (k : ErrKind) : (s.raise k).idhi = s.idhi := rfl
@[simp] theorem State.raise_xlhi (s : State) (k : ErrKind) : (s.raise k).xlhi = s.xlhi := rfl
@[simp] theorem State.raise_chiptype (s : State) (k : ErrKind) : (s.raise k).chiptype = s.chiptype := rfl
@[simp] theorem State.raise_captype (s : State) (k : ErrKind) : (s.raise k).captype = s.captype := rfl
@[simp] theorem State.raise_custcode (s : State) (k : ErrKind) : (s.raise k).custcode = s.custcode := rfl
@[simp] theorem State.raise_serial (s : State) (k : ErrKind) : (s.raise k).serial = s.serial := rfl
@[simp] theorem State.raise_wave (s : State) (k : ErrKind) : (s.raise k).wave = s.wave := rfl
@[simp] theorem State.raise_pulse (s : State) (k : ErrKind) : (s.raise k).pulse = s.pulse := rfl
@[simp] theorem State.raise_bits (s : State) (k : ErrKind) : (s.raise k).bits = s.bits := rfl
@[simp] theorem State.raise_params (s : State) (k : ErrKind) : (s.raise k).params = s.params := rfl
@[simp] theorem State.raise_epoch (s : State) (k : ErrKind) : (s.raise k).epoch = s.epoch := rfl
@[simp] theorem State.raise_demodIn (s : State) (k : ErrKind) : (s.raise k).demodIn = s.demodIn := rfl
@[simp] theorem State.raise_clockIn (s : State) (k : ErrKind) : (s.raise k).clockIn = s.clockIn := rfl
@[simp] theorem State.raise_calls (s : State) (k : ErrKind) : (s.raise k).calls = s.calls := rfl
@[simp] theorem State.raise_pending (s : State) (k : ErrKind) : (s.raise k).pending = s.pending := rfl
@[simp] theorem State.raise_pc (s : State) (k : ErrKind) : (s.raise k).pc = s.pc := rfl
@[simp] theorem State.raise_replies (s : State) (k : ErrKind) : (s.raise k).replies = s.replies := rfl

/-! ### State.done -/

@[simp] theorem State.done_x (s : State) (p : Bool) : (s.done p).x = s.x := rfl
@[simp] theorem State.done_status (s : State) (p : Bool) : (s.done p).status = s.status.done p := rfl
@[simp] theorem State.done_cfg (s : State) (p : Bool) : (s.done p).cfg = s.cfg := rfl
@[simp] theorem State.done_respValid (s : State) (p : Bool) : (s.done p).respValid = s.respValid := rfl
@[simp] theorem State.done_wlen (s : State) (p : Bool) : (s.done p).wlen = s.wlen := rfl
@[simp] theorem State.done_wbase (s : State) (p : Bool) : (s.done p).wbase = s.wbase := rfl
@[simp] theorem State.done_blen (s : State) (p : Bool) : (s.done p).blen = s.blen := rfl
@[simp] theorem State.done_boff (s : State) (p : Bool) : (s.done p).boff = s.boff := rfl
@[simp] theorem State.done_plen (s : State) (p : Bool) : (s.done p).plen = s.plen := rfl
@[simp] theorem State.done_pidx (s : State) (p : Bool) : (s.done p).pidx = s.pidx := rfl
@[simp] theorem State.done_minw (s : State) (p : Bool) : (s.done p).minw = s.minw := rfl
@[simp] theorem State.done_skip0 (s : State) (p : Bool) : (s.done p).skip0 = s.skip0 := rfl
@[simp] theorem State.done_clk (s : State) (p : Bool) : (s.done p).clk = s.clk := rfl
@[simp] theorem State.done_tol (s : State) (p : Bool) : (s.done p).tol = s.tol := rfl
@[simp] theorem State.done_mkidx (s : State) (p : Bool) : (s.done p).mkidx = s.mkidx := rfl
@[simp] theorem State.done_mkph (s : State) (p : Bool) : (s.done p).mkph = s.mkph := rfl
@[simp] theorem State.done_mkpos (s : State) (p : Bool) : (s.done p).mkpos = s.mkpos := rfl
@[simp] theorem State.done_m1idx (s : State) (p : Bool) : (s.done p).m1idx = s.m1idx := rfl
@[simp] theorem State.done_m1ph (s : State) (p : Bool) : (s.done p).m1ph = s.m1ph := rfl
@[simp] theorem State.done_m2idx (s : State) (p : Bool) : (s.done p).m2idx = s.m2idx := rfl
@[simp] theorem State.done_nblk (s : State) (p : Bool) : (s.done p).nblk = s.nblk := rfl
@[simp] theorem State.done_blkpf (s : State) (p : Bool) : (s.done p).blkpf = s.blkpf := rfl
@[simp] theorem State.done_blk (s : State) (p : Bool) : (s.done p).blk = s.blk := rfl
@[simp] theorem State.done_word (s : State) (p : Bool) : (s.done p).word = s.word := rfl
@[simp] theorem State.done_addr (s : State) (p : Bool) : (s.done p).addr = s.addr := rfl
@[simp] theorem State.done_stage (s : State) (p : Bool) : (s.done p).stage = s.stage := rfl
@[simp] theorem State.done_stgerr (s : State) (p : Bool) : (s.done p).stgerr = s.stgerr := rfl
@[simp] theorem State.done_preoff (s : State) (p : Bool) : (s.done p).preoff = s.preoff := rfl
@[simp] theorem State.done_idlo (s : State) (p : Bool) : (s.done p).idlo = s.idlo := rfl
@[simp] theorem State.done_idhi (s : State) (p : Bool) : (s.done p).idhi = s.idhi := rfl
@[simp] theorem State.done_xlhi (s : State) (p : Bool) : (s.done p).xlhi = s.xlhi := rfl
@[simp] theorem State.done_chiptype (s : State) (p : Bool) : (s.done p).chiptype = s.chiptype := rfl
@[simp] theorem State.done_captype (s : State) (p : Bool) : (s.done p).captype = s.captype := rfl
@[simp] theorem State.done_custcode (s : State) (p : Bool) : (s.done p).custcode = s.custcode := rfl
@[simp] theorem State.done_serial (s : State) (p : Bool) : (s.done p).serial = s.serial := rfl
@[simp] theorem State.done_wave (s : State) (p : Bool) : (s.done p).wave = s.wave := rfl
@[simp] theorem State.done_pulse (s : State) (p : Bool) : (s.done p).pulse = s.pulse := rfl
@[simp] theorem State.done_bits (s : State) (p : Bool) : (s.done p).bits = s.bits := rfl
@[simp] theorem State.done_params (s : State) (p : Bool) : (s.done p).params = s.params := rfl
@[simp] theorem State.done_epoch (s : State) (p : Bool) : (s.done p).epoch = s.epoch := rfl
@[simp] theorem State.done_demodIn (s : State) (p : Bool) : (s.done p).demodIn = s.demodIn := rfl
@[simp] theorem State.done_clockIn (s : State) (p : Bool) : (s.done p).clockIn = s.clockIn := rfl
@[simp] theorem State.done_calls (s : State) (p : Bool) : (s.done p).calls = s.calls := rfl
@[simp] theorem State.done_pending (s : State) (p : Bool) : (s.done p).pending = s.pending := rfl
@[simp] theorem State.done_pc (s : State) (p : Bool) : (s.done p).pc = s.pc := rfl
@[simp] theorem State.done_replies (s : State) (p : Bool) : (s.done p).replies = s.replies := rfl

/-! ### State.writeWave -/

@[simp] theorem State.writeWave_x (s : State) (i : Nat) (vs : List Int) : (s.writeWave i vs).x = s.x := rfl
@[simp] theorem State.writeWave_status (s : State) (i : Nat) (vs : List Int) : (s.writeWave i vs).status = s.status := rfl
@[simp] theorem State.writeWave_cfg (s : State) (i : Nat) (vs : List Int) : (s.writeWave i vs).cfg = s.cfg := rfl
@[simp] theorem State.writeWave_respValid (s : State) (i : Nat) (vs : List Int) : (s.writeWave i vs).respValid = s.respValid := rfl
@[simp] theorem State.writeWave_wlen (s : State) (i : Nat) (vs : List Int) : (s.writeWave i vs).wlen = s.wlen := rfl
@[simp] theorem State.writeWave_wbase (s : State) (i : Nat) (vs : List Int) : (s.writeWave i vs).wbase = s.wbase := rfl
@[simp] theorem State.writeWave_blen (s : State) (i : Nat) (vs : List Int) : (s.writeWave i vs).blen = s.blen := rfl
@[simp] theorem State.writeWave_boff (s : State) (i : Nat) (vs : List Int) : (s.writeWave i vs).boff = s.boff := rfl
@[simp] theorem State.writeWave_plen (s : State) (i : Nat) (vs : List Int) : (s.writeWave i vs).plen = s.plen := rfl
@[simp] theorem State.writeWave_pidx (s : State) (i : Nat) (vs : List Int) : (s.writeWave i vs).pidx = s.pidx := rfl
@[simp] theorem State.writeWave_minw (s : State) (i : Nat) (vs : List Int) : (s.writeWave i vs).minw = s.minw := rfl
@[simp] theorem State.writeWave_skip0 (s : State) (i : Nat) (vs : List Int) : (s.writeWave i vs).skip0 = s.skip0 := rfl
@[simp] theorem State.writeWave_clk (s : State) (i : Nat) (vs : List Int) : (s.writeWave i vs).clk = s.clk := rfl
@[simp] theorem State.writeWave_tol (s : State) (i : Nat) (vs : List Int) : (s.writeWave i vs).tol = s.tol := rfl
@[simp] theorem State.writeWave_mkidx (s : State) (i : Nat) (vs : List Int) : (s.writeWave i vs).mkidx = s.mkidx := rfl
@[simp] theorem State.writeWave_mkph (s : State) (i : Nat) (vs : List Int) : (s.writeWave i vs).mkph = s.mkph := rfl
@[simp] theorem State.writeWave_mkpos (s : State) (i : Nat) (vs : List Int) : (s.writeWave i vs).mkpos = s.mkpos := rfl
@[simp] theorem State.writeWave_m1idx (s : State) (i : Nat) (vs : List Int) : (s.writeWave i vs).m1idx = s.m1idx := rfl
@[simp] theorem State.writeWave_m1ph (s : State) (i : Nat) (vs : List Int) : (s.writeWave i vs).m1ph = s.m1ph := rfl
@[simp] theorem State.writeWave_m2idx (s : State) (i : Nat) (vs : List Int) : (s.writeWave i vs).m2idx = s.m2idx := rfl
@[simp] theorem State.writeWave_nblk (s : State) (i : Nat) (vs : List Int) : (s.writeWave i vs).nblk = s.nblk := rfl
@[simp] theorem State.writeWave_blkpf (s : State) (i : Nat) (vs : List Int) : (s.writeWave i vs).blkpf = s.blkpf := rfl
@[simp] theorem State.writeWave_blk (s : State) (i : Nat) (vs : List Int) : (s.writeWave i vs).blk = s.blk := rfl
@[simp] theorem State.writeWave_word (s : State) (i : Nat) (vs : List Int) : (s.writeWave i vs).word = s.word := rfl
@[simp] theorem State.writeWave_addr (s : State) (i : Nat) (vs : List Int) : (s.writeWave i vs).addr = s.addr := rfl
@[simp] theorem State.writeWave_stage (s : State) (i : Nat) (vs : List Int) : (s.writeWave i vs).stage = s.stage := rfl
@[simp] theorem State.writeWave_stgerr (s : State) (i : Nat) (vs : List Int) : (s.writeWave i vs).stgerr = s.stgerr := rfl
@[simp] theorem State.writeWave_preoff (s : State) (i : Nat) (vs : List Int) : (s.writeWave i vs).preoff = s.preoff := rfl
@[simp] theorem State.writeWave_idlo (s : State) (i : Nat) (vs : List Int) : (s.writeWave i vs).idlo = s.idlo := rfl
@[simp] theorem State.writeWave_idhi (s : State) (i : Nat) (vs : List Int) : (s.writeWave i vs).idhi = s.idhi := rfl
@[simp] theorem State.writeWave_xlhi (s : State) (i : Nat) (vs : List Int) : (s.writeWave i vs).xlhi = s.xlhi := rfl
@[simp] theorem State.writeWave_chiptype (s : State) (i : Nat) (vs : List Int) : (s.writeWave i vs).chiptype = s.chiptype := rfl
@[simp] theorem State.writeWave_captype (s : State) (i : Nat) (vs : List Int) : (s.writeWave i vs).captype = s.captype := rfl
@[simp] theorem State.writeWave_custcode (s : State) (i : Nat) (vs : List Int) : (s.writeWave i vs).custcode = s.custcode := rfl
@[simp] theorem State.writeWave_serial (s : State) (i : Nat) (vs : List Int) : (s.writeWave i vs).serial = s.serial := rfl
@[simp] theorem State.writeWave_wave (s : State) (i : Nat) (vs : List Int) : (s.writeWave i vs).wave = Memory.write s.wave i vs := rfl
@[simp] theorem State.writeWave_pulse (s : State) (i : Nat) (vs : List Int) : (s.writeWave i vs).pulse = s.pulse := rfl
@[simp] theorem State.writeWave_bits (s : State) (i : Nat) (vs : List Int) : (s.writeWave i vs).bits = s.bits := rfl
@[simp] theorem State.writeWave_params (s : State) (i : Nat) (vs : List Int) : (s.writeWave i vs).params = s.params := rfl
@[simp] theorem State.writeWave_epoch (s : State) (i : Nat) (vs : List Int) : (s.writeWave i vs).epoch = s.epoch := rfl
@[simp] theorem State.writeWave_demodIn (s : State) (i : Nat) (vs : List Int) : (s.writeWave i vs).demodIn = s.demodIn := rfl
@[simp] theorem State.writeWave_clockIn (s : State) (i : Nat) (vs : List Int) : (s.writeWave i vs).clockIn = s.clockIn := rfl
@[simp] theorem State.writeWave_calls (s : State) (i : Nat) (vs : List Int) : (s.writeWave i vs).calls = s.calls := rfl
@[simp] theorem State.writeWave_pending (s : State) (i : Nat) (vs : List Int) : (s.writeWave i vs).pending = s.pending := rfl
@[simp] theorem State.writeWave_pc (s : State) (i : Nat) (vs : List Int) : (s.writeWave i vs).pc = s.pc := rfl
@[simp] theorem State.writeWave_replies (s : State) (i : Nat) (vs : List Int) : (s.writeWave i vs).replies = s.replies := rfl

/-! ### State.writePulse -/

@[simp] theorem State.writePulse_x (s : State) (i : Nat) (vs : List Word) : (s.writePulse i vs).x = s.x := rfl
@[simp] theorem State.writePulse_status (s : State) (i : Nat) (vs : List Word) : (s.writePulse i vs).status = s.status := rfl
@[simp] theorem State.writePulse_cfg (s : State) (i : Nat) (vs : List Word) : (s.writePulse i vs).cfg = s.cfg := rfl
@[simp] theorem State.writePulse_respValid (s : State) (i : Nat) (vs : List Word) : (s.writePulse i vs).respValid = s.respValid := rfl
@[simp] theorem State.writePulse_wlen (s : State) (i : Nat) (vs : List Word) : (s.writePulse i vs).wlen = s.wlen := rfl
@[simp] theorem State.writePulse_wbase (s : State) (i : Nat) (vs : List Word) : (s.writePulse i vs).wbase = s.wbase := rfl
@[simp] theorem State.writePulse_blen (s : State) (i : Nat) (vs : List Word) : (s.writePulse i vs).blen = s.blen := rfl
@[simp] theorem State.writePulse_boff (s : State) (i : Nat) (vs : List Word) : (s.writePulse i vs).boff = s.boff := rfl
@[simp] theorem State.writePulse_plen (s : State) (i : Nat) (vs : List Word) : (s.writePulse i vs).plen = s.plen := rfl
@[simp] theorem State.writePulse_pidx (s : State) (i : Nat) (vs : List Word) : (s.writePulse i vs).pidx = s.pidx := rfl
@[simp] theorem State.writePulse_minw (s : State) (i : Nat) (vs : List Word) : (s.writePulse i vs).minw = s.minw := rfl
@[simp] theorem State.writePulse_skip0 (s : State) (i : Nat) (vs : List Word) : (s.writePulse i vs).skip0 = s.skip0 := rfl
@[simp] theorem State.writePulse_clk (s : State) (i : Nat) (vs : List Word) : (s.writePulse i vs).clk = s.clk := rfl
@[simp] theorem State.writePulse_tol (s : State) (i : Nat) (vs : List Word) : (s.writePulse i vs).tol = s.tol := rfl
@[simp] theorem State.writePulse_mkidx (s : State) (i : Nat) (vs : List Word) : (s.writePulse i vs).mkidx = s.mkidx := rfl
@[simp] theorem State.writePulse_mkph (s : State) (i : Nat) (vs : List Word) : (s.writePulse i vs).mkph = s.mkph := rfl
@[simp] theorem State.writePulse_mkpos (s : State) (i : Nat) (vs : List Word) : (s.writePulse i vs).mkpos = s.mkpos := rfl
@[simp] theorem State.writePulse_m1idx (s : State) (i : Nat) (vs : List Word) : (s.writePulse i vs).m1idx = s.m1idx := rfl
@[simp] theorem State.writePulse_m1ph (s : State) (i : Nat) (vs : List Word) : (s.writePulse i vs).m1ph = s.m1ph := rfl
@[simp] theorem State.writePulse_m2idx (s : State) (i : Nat) (vs : List Word) : (s.writePulse i vs).m2idx = s.m2idx := rfl
@[simp] theorem State.writePulse_nblk (s : State) (i : Nat) (vs : List Word) : (s.writePulse i vs).nblk = s.nblk := rfl
@[simp] theorem State.writePulse_blkpf (s : State) (i : Nat) (vs : List Word) : (s.writePulse i vs).blkpf = s.blkpf := rfl
@[simp] theorem State.writePulse_blk (s : State) (i : Nat) (vs : List Word) : (s.writePulse i vs).blk = s.blk := rfl
@[simp] theorem State.writePulse_word (s : State) (i : Nat) (vs : List Word) : (s.writePulse i vs).word = s.word := rfl
@[simp] theorem State.writePulse_addr (s : State) (i : Nat) (vs : List Word) : (s.writePulse i vs).addr = s.addr := rfl
@[simp] theorem State.writePulse_stage (s : State) (i : Nat) (vs : List Word) : (s.writePulse i vs).stage = s.stage := rfl
@[simp] theorem State.writePulse_stgerr (s : State) (i : Nat) (vs : List Word) : (s.writePulse i vs).stgerr = s.stgerr := rfl
@[simp] theorem State.writePulse_preoff (s : State) (i : Nat) (vs : List Word) : (s.writePulse i vs).preoff = s.preoff := rfl
@[simp] theorem State.writePulse_idlo (s : State) (i : Nat) (vs : List Word) : (s.writePulse i vs).idlo = s.idlo := rfl
@[simp] theorem State.writePulse_idhi (s : State) (i : Nat) (vs : List Word) : (s.writePulse i vs).idhi = s.idhi := rfl
@[simp] theorem State.writePulse_xlhi (s : State) (i : Nat) (vs : List Word) : (s.writePulse i vs).xlhi = s.xlhi := rfl
@[simp] theorem State.writePulse_chiptype (s : State) (i : Nat) (vs : List Word) : (s.writePulse i vs).chiptype = s.chiptype := rfl
@[simp] theorem State.writePulse_captype (s : State) (i : Nat) (vs : List Word) : (s.writePulse i vs).captype = s.captype := rfl
@[simp] theorem State.writePulse_custcode (s : State) (i : Nat) (vs : List Word) : (s.writePulse i vs).custcode = s.custcode := rfl
@[simp] theorem State.writePulse_serial (s : State) (i : Nat) (vs : List Word) : (s.writePulse i vs).serial = s.serial := rfl
@[simp] theorem State.writePulse_wave (s : State) (i : Nat) (vs : List Word) : (s.writePulse i vs).wave = s.wave := rfl
@[simp] theorem State.writePulse_pulse (s : State) (i : Nat) (vs : List Word) : (s.writePulse i vs).pulse = Memory.write s.pulse i vs := rfl
@[simp] theorem State.writePulse_bits (s : State) (i : Nat) (vs : List Word) : (s.writePulse i vs).bits = s.bits := rfl
@[simp] theorem State.writePulse_params (s : State) (i : Nat) (vs : List Word) : (s.writePulse i vs).params = s.params := rfl
@[simp] theorem State.writePulse_epoch (s : State) (i : Nat) (vs : List Word) : (s.writePulse i vs).epoch = s.epoch := rfl
@[simp] theorem State.writePulse_demodIn (s : State) (i : Nat) (vs : List Word) : (s.writePulse i vs).demodIn = s.demodIn := rfl
@[simp] theorem State.writePulse_clockIn (s : State) (i : Nat) (vs : List Word) : (s.writePulse i vs).clockIn = s.clockIn := rfl
@[simp] theorem State.writePulse_calls (s : State) (i : Nat) (vs : List Word) : (s.writePulse i vs).calls = s.calls := rfl
@[simp] theorem State.writePulse_pending (s : State) (i : Nat) (vs : List Word) : (s.writePulse i vs).pending = s.pending := rfl
@[simp] theorem State.writePulse_pc (s : State) (i : Nat) (vs : List Word) : (s.writePulse i vs).pc = s.pc := rfl
@[simp] theorem State.writePulse_replies (s : State) (i : Nat) (vs : List Word) : (s.writePulse i vs).replies = s.replies := rfl

/-! ### State.writeBits -/

@[simp] theorem State.writeBits_x (s : State) (i : Nat) (vs : List Bool) : (s.writeBits i vs).x = s.x := rfl
@[simp] theorem State.writeBits_status (s : State) (i : Nat) (vs : List Bool) : (s.writeBits i vs).status = s.status := rfl
@[simp] theorem State.writeBits_cfg (s : State) (i : Nat) (vs : List Bool) : (s.writeBits i vs).cfg = s.cfg := rfl
@[simp] theorem State.writeBits_respValid (s : State) (i : Nat) (vs : List Bool) : (s.writeBits i vs).respValid = s.respValid := rfl
@[simp] theorem State.writeBits_wlen (s : State) (i : Nat) (vs : List Bool) : (s.writeBits i vs).wlen = s.wlen := rfl
@[simp] theorem State.writeBits_wbase (s : State) (i : Nat) (vs : List Bool) : (s.writeBits i vs).wbase = s.wbase := rfl
@[simp] theorem State.writeBits_blen (s : State) (i : Nat) (vs : List Bool) : (s.writeBits i vs).blen = s.blen := rfl
@[simp] theorem State.writeBits_boff (s : State) (i : Nat) (vs : List Bool) : (s.writeBits i vs).boff = s.boff := rfl
@[simp] theorem State.writeBits_plen (s : State) (i : Nat) (vs : List Bool) : (s.writeBits i vs).plen = s.plen := rfl
@[simp] theorem State.writeBits_pidx (s : State) (i : Nat) (vs : List Bool) : (s.writeBits i vs).pidx = s.pidx := rfl
@[simp] theorem State.writeBits_minw (s : State) (i : Nat) (vs : List Bool) : (s.writeBits i vs).minw = s.minw := rfl
@[simp] theorem State.writeBits_skip0 (s : State) (i : Nat) (vs : List Bool) : (s.writeBits i vs).skip0 = s.skip0 := rfl
@[simp] theorem State.writeBits_clk (s : State) (i : Nat) (vs : List Bool) : (s.writeBits i vs).clk = s.clk := rfl
@[simp] theorem State.writeBits_tol (s : State) (i : Nat) (vs : List Bool) : (s.writeBits i vs).tol = s.tol := rfl
@[simp] theorem State.writeBits_mkidx (s : State) (i : Nat) (vs : List Bool) : (s.writeBits i vs).mkidx = s.mkidx := rfl
@[simp] theorem State.writeBits_mkph (s : State) (i : Nat) (vs : List Bool) : (s.writeBits i vs).mkph = s.mkph := rfl
@[simp] theorem State.writeBits_mkpos (s : State) (i : Nat) (vs : List Bool) : (s.writeBits i vs).mkpos = s.mkpos := rfl
@[simp] theorem State.writeBits_m1idx (s : State) (i : Nat) (vs : List Bool) : (s.writeBits i vs).m1idx = s.m1idx := rfl
@[simp] theorem State.writeBits_m1ph (s : State) (i : Nat) (vs : List Bool) : (s.writeBits i vs).m1ph = s.m1ph := rfl
@[simp] theorem State.writeBits_m2idx (s : State) (i : Nat) (vs : List Bool) : (s.writeBits i vs).m2idx = s.m2idx := rfl
@[simp] theorem State.writeBits_nblk (s : State) (i : Nat) (vs : List Bool) : (s.writeBits i vs).nblk = s.nblk := rfl
@[simp] theorem State.writeBits_blkpf (s : State) (i : Nat) (vs : List Bool) : (s.writeBits i vs).blkpf = s.blkpf := rfl
@[simp] theorem State.writeBits_blk (s : State) (i : Nat) (vs : List Bool) : (s.writeBits i vs).blk = s.blk := rfl
@[simp] theorem State.writeBits_word (s : State) (i : Nat) (vs : List Bool) : (s.writeBits i vs).word = s.word := rfl
@[simp] theorem State.writeBits_addr (s : State) (i : Nat) (vs : List Bool) : (s.writeBits i vs).addr = s.addr := rfl
@[simp] theorem State.writeBits_stage (s : State) (i : Nat) (vs : List Bool) : (s.writeBits i vs).stage = s.stage := rfl
@[simp] theorem State.writeBits_stgerr (s : State) (i : Nat) (vs : List Bool) : (s.writeBits i vs).stgerr = s.stgerr := rfl
@[simp] theorem State.writeBits_preoff (s : State) (i : Nat) (vs : List Bool) : (s.writeBits i vs).preoff = s.preoff := rfl
@[simp] theorem State.writeBits_idlo (s : State) (i : Nat) (vs : List Bool) : (s.writeBits i vs).idlo = s.idlo := rfl
@[simp] theorem State.writeBits_idhi (s : State) (i : Nat) (vs : List Bool) : (s.writeBits i vs).idhi = s.idhi := rfl
@[simp] theorem State.writeBits_xlhi (s : State) (i : Nat) (vs : List Bool) : (s.writeBits i vs).xlhi = s.xlhi := rfl
@[simp] theorem State.writeBits_chiptype (s : State) (i : Nat) (vs : List Bool) : (s.writeBits i vs).chiptype = s.chiptype := rfl
@[simp] theorem State.writeBits_captype (s : State) (i : Nat) (vs : List Bool) : (s.writeBits i vs).captype = s.captype := rfl
@[simp] theorem State.writeBits_custcode (s : State) (i : Nat) (vs : List Bool) : (s.writeBits i vs).custcode = s.custcode := rfl
@[simp] theorem State.writeBits_serial (s : State) (i : Nat) (vs : List Bool) : (s.writeBits i vs).serial = s.serial := rfl
@[simp] theorem State.writeBits_wave (s : State) (i : Nat) (vs : List Bool) : (s.writeBits i vs).wave = s.wave := rfl
@[simp] theorem State.writeBits_pulse (s : State) (i : Nat) (vs : List Bool) : (s.writeBits i vs).pulse = s.pulse := rfl
@[simp] theorem State.writeBits_bits (s : State) (i : Nat) (vs : List Bool) : (s.writeBits i vs).bits = Memory.write s.bits i vs := rfl
@[simp] theorem State.writeBits_params (s : State) (i : Nat) (vs : List Bool) : (s.writeBits i vs).params = s.params := rfl
@[simp] theorem State.writeBits_epoch (s : State) (i : Nat) (vs : List Bool) : (s.writeBits i vs).epoch = s.epoch := rfl
@[simp] theorem State.writeBits_demodIn (s : State) (i : Nat) (vs : List Bool) : (s.writeBits i vs).demodIn = s.demodIn := rfl
@[simp] theorem State.writeBits_clockIn (s : State) (i : Nat) (vs : List Bool) : (s.writeBits i vs).clockIn = s.clockIn := rfl
@[simp] theorem State.writeBits_calls (s : State) (i : Nat) (vs : List Bool) : (s.writeBits i vs).calls = s.calls := rfl
@[simp] theorem State.writeBits_pending (s : State) (i : Nat) (vs : List Bool) : (s.writeBits i vs).pending = s.pending := rfl
@[simp] theorem State.writeBits_pc (s : State) (i : Nat) (vs : List Bool) : (s.writeBits i vs).pc = s.pc := rfl
@[simp] theorem State.writeBits_replies (s : State) (i : Nat) (vs : List Bool) : (s.writeBits i vs).replies = s.replies := rfl

/-! ### State.logCall -/

@[simp] theorem State.logCall_x (s : State) (c : OracleCall) : (s.logCall c).x = s.x := rfl
@[simp] theorem State.logCall_status (s : State) (c : OracleCall) : (s.logCall c).status = s.status := rfl
@[simp] theorem State.logCall_cfg (s : State) (c : OracleCall) : (s.logCall c).cfg = s.cfg := rfl
@[simp] theorem State.logCall_respValid (s : State) (c : OracleCall) : (s.logCall c).respValid = s.respValid := rfl
@[simp] theorem State.logCall_wlen (s : State) (c : OracleCall) : (s.logCall c).wlen = s.wlen := rfl
@[simp] theorem State.logCall_wbase (s : State) (c : OracleCall) : (s.logCall c).wbase = s.wbase := rfl
@[simp] theorem State.logCall_blen (s : State) (c : OracleCall) : (s.logCall c).blen = s.blen := rfl
@[simp] theorem State.logCall_boff (s : State) (c : OracleCall) : (s.logCall c).boff = s.boff := rfl
@[simp] theorem State.logCall_plen (s : State) (c : OracleCall) : (s.logCall c).plen = s.plen := rfl
@[simp] theorem State.logCall_pidx (s : State) (c : OracleCall) : (s.logCall c).pidx = s.pidx := rfl
@[simp] theorem State.logCall_minw (s : State) (c : OracleCall) : (s.logCall c).minw = s.minw := rfl
@[simp] theorem State.logCall_skip0 (s : State) (c : OracleCall) : (s.logCall c).skip0 = s.skip0 := rfl
@[simp] theorem State.logCall_clk (s : State) (c : OracleCall) : (s.logCall c).clk = s.clk := rfl
@[simp] theorem State.logCall_tol (s : State) (c : OracleCall) : (s.logCall c).tol = s.tol := rfl
@[simp] theorem State.logCall_mkidx (s : State) (c : OracleCall) : (s.logCall c).mkidx = s.mkidx := rfl
@[simp] theorem State.logCall_mkph (s : State) (c : OracleCall) : (s.logCall c).mkph = s.mkph := rfl
@[simp] theorem State.logCall_mkpos (s : State) (c : OracleCall) : (s.logCall c).mkpos = s.mkpos := rfl
@[simp] theorem State.logCall_m1idx (s : State) (c : OracleCall) : (s.logCall c).m1idx = s.m1idx := rfl
@[simp] theorem State.logCall_m1ph (s : State) (c : OracleCall) : (s.logCall c).m1ph = s.m1ph := rfl
@[simp] theorem State.logCall_m2idx (s : State) (c : OracleCall) : (s.logCall c).m2idx = s.m2idx := rfl
@[simp] theorem State.logCall_nblk (s : State) (c : OracleCall) : (s.logCall c).nblk = s.nblk := rfl
@[simp] theorem State.logCall_blkpf (s : State) (c : OracleCall) : (s.logCall c).blkpf = s.blkpf := rfl
@[simp] theorem State.logCall_blk (s : State) (c : OracleCall) : (s.logCall c).blk = s.blk := rfl
@[simp] theorem State.logCall_word (s : State) (c : OracleCall) : (s.logCall c).word = s.word := rfl
@[simp] theorem State.logCall_addr (s : State) (c : OracleCall) : (s.logCall c).addr = s.addr := rfl
@[simp] theorem State.logCall_stage (s : State) (c : OracleCall) : (s.logCall c).stage = s.stage := rfl
@[simp] theorem State.logCall_stgerr (s : State) (c : OracleCall) : (s.logCall c).stgerr = s.stgerr := rfl
@[simp] theorem State.logCall_preoff (s : State) (c : OracleCall) : (s.logCall c).preoff = s.preoff := rfl
@[simp] theorem State.logCall_idlo (s : State) (c : OracleCall) : (s.logCall c).idlo = s.idlo := rfl
@[simp] theorem State.logCall_idhi (s : State) (c : OracleCall) : (s.logCall c).idhi = s.idhi := rfl
@[simp] theorem State.logCall_xlhi (s : State) (c : OracleCall) : (s.logCall c).xlhi = s.xlhi := rfl
@[simp] theorem State.logCall_chiptype (s : State) (c : OracleCall) : (s.logCall c).chiptype = s.chiptype := rfl
@[simp] theorem State.logCall_captype (s : State) (c : OracleCall) : (s.logCall c).captype = s.captype := rfl
@[simp] theorem State.logCall_custcode (s : State) (c : OracleCall) : (s.logCall c).custcode = s.custcode := rfl
@[simp] theorem State.logCall_serial (s : State) (c : OracleCall) : (s.logCall c).serial = s.serial := rfl
@[simp] theorem State.logCall_wave (s : State) (c : OracleCall) : (s.logCall c).wave = s.wave := rfl
@[simp] theorem State.logCall_pulse (s : State) (c : OracleCall) : (s.logCall c).pulse = s.pulse := rfl
@[simp] theorem State.logCall_bits (s : State) (c : OracleCall) : (s.logCall c).bits = s.bits := rfl
@[simp] theorem State.logCall_params (s : State) (c : OracleCall) : (s.logCall c).params = s.params := rfl
@[simp] theorem State.logCall_epoch (s : State) (c : OracleCall) : (s.logCall c).epoch = s.epoch := rfl
@[simp] theorem State.logCall_demodIn (s : State) (c : OracleCall) : (s.logCall c).demodIn = s.demodIn := rfl
@[simp] theorem State.logCall_clockIn (s : State) (c : OracleCall) : (s.logCall c).clockIn = s.clockIn := rfl
@[simp] theorem State.logCall_calls (s : State) (c : OracleCall) : (s.logCall c).calls = s.calls ++ [c] := rfl
@[simp] theorem State.logCall_pending (s : State) (c : OracleCall) : (s.logCall c).pending = s.pending := rfl
@[simp] theorem State.logCall_pc (s : State) (c : OracleCall) : (s.logCall c).pc = s.pc := rfl
@[simp] theorem State.logCall_replies (s : State) (c : OracleCall) : (s.logCall c).replies = s.replies := rfl

/-! ### State.answered -/

@[simp] theorem State.answered_x (s : State) (r : Reply) : (s.answered r).x = s.x := rfl
@[simp] theorem State.answered_status (s : State) (r : Reply) : (s.answered r).status = s.status := rfl
@[simp] theorem State.answered_cfg (s : State) (r : Reply) : (s.answered r).cfg = s.cfg := rfl
@[simp] theorem State.answered_respValid (s : State) (r : Reply) : (s.answered r).respValid = s.respValid := rfl
@[simp] theorem State.answered_wlen (s : State) (r : Reply) : (s.answered r).wlen = s.wlen := rfl
@[simp] theorem State.answered_wbase (s : State) (r : Reply) : (s.answered r).wbase = s.wbase := rfl
@[simp] theorem State.answered_blen (s : State) (r : Reply) : (s.answered r).blen = s.blen := rfl
@[simp] theorem State.answered_boff (s : State) (r : Reply) : (s.answered r).boff = s.boff := rfl
@[simp] theorem State.answered_plen (s : State) (r : Reply) : (s.answered r).plen = s.plen := rfl
@[simp] theorem State.answered_pidx (s : State) (r : Reply) : (s.answered r).pidx = s.pidx := rfl
@[simp] theorem State.answered_minw (s : State) (r : Reply) : (s.answered r).minw = s.minw := rfl
@[simp] theorem State.answered_skip0 (s : State) (r : Reply) : (s.answered r).skip0 = s.skip0 := rfl
@[simp] theorem State.answered_clk (s : State) (r : Reply) : (s.answered r).clk = s.clk := rfl
@[simp] theorem State.answered_tol (s : State) (r : Reply) : (s.answered r).tol = s.tol := rfl
@[simp] theorem State.answered_mkidx (s : State) (r : Reply) : (s.answered r).mkidx = s.mkidx := rfl
@[simp] theorem State.answered_mkph (s : State) (r : Reply) : (s.answered r).mkph = s.mkph := rfl
@[simp] theorem State.answered_mkpos (s : State) (r : Reply) : (s.answered r).mkpos = s.mkpos := rfl
@[simp] theorem State.answered_m1idx (s : State) (r : Reply) : (s.answered r).m1idx = s.m1idx := rfl
@[simp] theorem State.answered_m1ph (s : State) (r : Reply) : (s.answered r).m1ph = s.m1ph := rfl
@[simp] theorem State.answered_m2idx (s : State) (r : Reply) : (s.answered r).m2idx = s.m2idx := rfl
@[simp] theorem State.answered_nblk (s : State) (r : Reply) : (s.answered r).nblk = s.nblk := rfl
@[simp] theorem State.answered_blkpf (s : State) (r : Reply) : (s.answered r).blkpf = s.blkpf := rfl
@[simp] theorem State.answered_blk (s : State) (r : Reply) : (s.answered r).blk = s.blk := rfl
@[simp] theorem State.answered_word (s : State) (r : Reply) : (s.answered r).word = s.word := rfl
@[simp] theorem State.answered_addr (s : State) (r : Reply) : (s.answered r).addr = s.addr := rfl
@[simp] theorem State.answered_stage (s : State) (r : Reply) : (s.answered r).stage = s.stage := rfl
@[simp] theorem State.answered_stgerr (s : State) (r : Reply) : (s.answered r).stgerr = s.stgerr := rfl
@[simp] theorem State.answered_preoff (s : State) (r : Reply) : (s.answered r).preoff = s.preoff := rfl
@[simp] theorem State.answered_idlo (s : State) (r : Reply) : (s.answered r).idlo = s.idlo := rfl
@[simp] theorem State.answered_idhi (s : State) (r : Reply) : (s.answered r).idhi = s.idhi := rfl
@[simp] theorem State.answered_xlhi (s : State) (r : Reply) : (s.answered r).xlhi = s.xlhi := rfl
@[simp] theorem State.answered_chiptype (s : State) (r : Reply) : (s.answered r).chiptype = s.chiptype := rfl
@[simp] theorem State.answered_captype (s : State) (r : Reply) : (s.answered r).captype = s.captype := rfl
@[simp] theorem State.answered_custcode (s : State) (r : Reply) : (s.answered r).custcode = s.custcode := rfl
@[simp] theorem State.answered_serial (s : State) (r : Reply) : (s.answered r).serial = s.serial := rfl
@[simp] theorem State.answered_wave (s : State) (r : Reply) : (s.answered r).wave = s.wave := rfl
@[simp] theorem State.answered_pulse (s : State) (r : Reply) : (s.answered r).pulse = s.pulse := rfl
@[simp] theorem State.answered_bits (s : State) (r : Reply) : (s.answered r).bits = s.bits := rfl
@[simp] theorem State.answered_params (s : State) (r : Reply) : (s.answered r).params = s.params := rfl
@[simp] theorem State.answered_epoch (s : State) (r : Reply) : (s.answered r).epoch = s.epoch := rfl
@[simp] theorem State.answered_demodIn (s : State) (r : Reply) : (s.answered r).demodIn = s.demodIn := rfl
@[simp] theorem State.answered_clockIn (s : State) (r : Reply) : (s.answered r).clockIn = s.clockIn := rfl
@[simp] theorem State.answered_calls (s : State) (r : Reply) : (s.answered r).calls = s.calls := rfl
@[simp] theorem State.answered_pending (s : State) (r : Reply) : (s.answered r).pending = s.pending := rfl
@[simp] theorem State.answered_pc (s : State) (r : Reply) : (s.answered r).pc = s.pc + 1 := rfl
@[simp] theorem State.answered_replies (s : State) (r : Reply) : (s.answered r).replies = s.replies ++ [r] := rfl

/-! ### Fields of STATUS -/

@[simp] theorem Status.raise_complete (st : Status) (k : ErrKind) : (st.raise k).complete = st.complete := rfl
@[simp] theorem Status.done_complete (st : Status) (p : Bool) : (st.done p).complete = st.complete := rfl
@[simp] theorem Status.raise_allPar (st : Status) (k : ErrKind) : (st.raise k).allPar = st.allPar := rfl
@[simp] theorem Status.done_allPar (st : Status) (p : Bool) : (st.done p).allPar = st.allPar := rfl
@[simp] theorem Status.raise_found (st : Status) (k : ErrKind) : (st.raise k).found = st.found := rfl
@[simp] theorem Status.done_found (st : Status) (p : Bool) : (st.done p).found = st.found := rfl
@[simp] theorem Status.raise_ptrunc (st : Status) (k : ErrKind) : (st.raise k).ptrunc = st.ptrunc := rfl
@[simp] theorem Status.done_ptrunc (st : Status) (p : Bool) : (st.done p).ptrunc = st.ptrunc := rfl
@[simp] theorem Status.raise_idValid (st : Status) (k : ErrKind) : (st.raise k).idValid = st.idValid := rfl
@[simp] theorem Status.done_idValid (st : Status) (p : Bool) : (st.done p).idValid = st.idValid := rfl
@[simp] theorem Status.raise_err (st : Status) (k : ErrKind) : (st.raise k).err = k := rfl
@[simp] theorem Status.raise_pass (st : Status) (k : ErrKind) : (st.raise k).pass = false := rfl
@[simp] theorem Status.raise_errSeen (st : Status) (k : ErrKind) : (st.raise k).errSeen = true := rfl
@[simp] theorem Status.done_err (st : Status) (p : Bool) : (st.done p).err = .none := rfl
@[simp] theorem Status.done_pass (st : Status) (p : Bool) : (st.done p).pass = p := rfl
@[simp] theorem Status.done_errSeen (st : Status) (p : Bool) : (st.done p).errSeen = st.errSeen := rfl

end Sys2Proof.Machine
end

