-- ==== Sys2Proof/Laws/Ops.lean ====
section
/-! SUPPORT. One lemma for each shared operation that says everything it can do, for proofs to cite instead of unfolding
it. -/

namespace Sys2Proof.Machine

/-- Ending a command made of parts: it raised the error that ended it, or it is done (R172, R173). -/
theorem Progress.conclude_cases (r : Progress) (v : State → Bool) :
    (∃ k, r.2 = some k ∧ r.conclude v = r.1.raise k) ∨ (r.2 = none ∧ r.conclude v = r.1.done (v r.1)) := by
  obtain ⟨t, _ | k⟩ := r
  · exact .inr ⟨rfl, rfl⟩
  · exact .inl ⟨k, rfl, rfl⟩

/-- A next part runs only when no error has ended the command. -/
theorem Progress.andThen_cases (r : Progress) (f : State → Progress) :
    (∃ k, r = (r.1, some k) ∧ r.andThen f = r) ∨ (r = (r.1, none) ∧ r.andThen f = f r.1) := by
  obtain ⟨t, _ | k⟩ := r
  · exact .inr ⟨rfl, rfl⟩
  · exact .inl ⟨k, rfl, rfl⟩

@[simp] theorem Progress.andThen_some (t : State) (k : ErrKind) (f : State → Progress) :
    Progress.andThen (t, some k) f = (t, some k) := rfl

@[simp] theorem Progress.andThen_none (t : State) (f : State → Progress) : Progress.andThen (t, none) f = f t := rfl

@[simp] theorem Progress.conclude_some (t : State) (k : ErrKind) (v : State → Bool) :
    Progress.conclude (t, some k) v = t.raise k := rfl

@[simp] theorem Progress.conclude_none (t : State) (v : State → Bool) :
    Progress.conclude (t, none) v = t.done (v t) := rfl

/-- A demodulator call takes the next answer that is ready, or a free one; it records the call and changes nothing of
the block (R30). -/
theorem State.askDemod_cases (s : State) (c : OracleCall) :
    (∃ r rest, s.demodIn = r :: rest ∧ s.askDemod c = (r, { s.logCall c with demodIn := rest })) ∨
      (s.demodIn = [] ∧ s.askDemod c = (Config.demodAnswer s.calls.length c, s.logCall c)) := by
  cases h : s.demodIn with
  | nil => exact .inr ⟨rfl, by simp [State.askDemod, h]⟩
  | cons r rest => exact .inl ⟨r, rest, rfl, by simp [State.askDemod, h]⟩

/-- An estimator call, likewise (R32, R33). -/
theorem State.askClock_cases (s : State) (c : OracleCall) :
    (∃ r rest, s.clockIn = r :: rest ∧ s.askClock c = (r, { s.logCall c with clockIn := rest })) ∨
      (s.clockIn = [] ∧ s.askClock c = (Config.clockAnswer s.calls.length c, s.logCall c)) := by
  cases h : s.clockIn with
  | nil => exact .inr ⟨rfl, by simp [State.askClock, h]⟩
  | cons r rest => exact .inl ⟨r, rest, rfl, by simp [State.askClock, h]⟩

/-- A demodulator call changes the event history and the queue of answers, and nothing else. -/
theorem State.askDemod_frame (s : State) (c : OracleCall) :
    (s.askDemod c).2 = { s with calls := s.calls ++ [c], demodIn := s.demodIn.tail } := by
  rcases s.askDemod_cases c with ⟨r, rest, h, e⟩ | ⟨h, e⟩
  · simp [e, h, State.logCall]
  · simp [e, State.logCall, h]

/-- An estimator call, likewise. -/
theorem State.askClock_frame (s : State) (c : OracleCall) :
    (s.askClock c).2 = { s with calls := s.calls ++ [c], clockIn := s.clockIn.tail } := by
  rcases s.askClock_cases c with ⟨r, rest, h, e⟩ | ⟨h, e⟩
  · simp [e, h, State.logCall]
  · simp [e, State.logCall, h]

/-- Reset of the block keeps the parameters, the collaborators, the host's list and the record (R10, R191). -/
theorem State.resetBlock_keeps (s : State) :
    s.resetBlock.params = s.params ∧ s.resetBlock.demodIn = s.demodIn ∧ s.resetBlock.clockIn = s.clockIn ∧
      s.resetBlock.calls = s.calls ∧ s.resetBlock.pending = s.pending ∧ s.resetBlock.pc = s.pc ∧
      s.resetBlock.replies = s.replies := ⟨rfl, rfl, rfl, rfl, rfl, rfl, rfl⟩

/-- Element reads after a store to WAVE. -/
theorem State.waveAt_writeWave (s : State) (i : Nat) (vs : List Int) (j : Nat) :
    (s.writeWave i vs).waveAt j = if i ≤ j ∧ j < i + vs.length then vs.getD (j - i) (s.waveAt j) else s.waveAt j := by
  simp only [State.waveAt, State.freeSample, State.writeWave_wave, State.writeWave_epoch, State.writeWave_params,
    Memory.read?_write]
  split
  · rename_i h
    rw [List.getD_eq_getElem?_getD, List.getElem?_eq_getElem (by omega)]
    rfl
  · rfl

/-- Element reads after a store to PULSE. -/
theorem State.pulseAt_writePulse (s : State) (i : Nat) (vs : List Word) (j : Nat) :
    (s.writePulse i vs).pulseAt j =
      if i ≤ j ∧ j < i + vs.length then vs.getD (j - i) (s.pulseAt j) else s.pulseAt j := by
  simp only [State.pulseAt, State.writePulse_pulse, State.writePulse_epoch, Memory.read?_write]
  split
  · rename_i h
    rw [List.getD_eq_getElem?_getD, List.getElem?_eq_getElem (by omega)]
    rfl
  · rfl

/-- Element reads after a store to BITS. -/
theorem State.bitAt_writeBits (s : State) (i : Nat) (vs : List Bool) (j : Nat) :
    (s.writeBits i vs).bitAt j = if i ≤ j ∧ j < i + vs.length then vs.getD (j - i) (s.bitAt j) else s.bitAt j := by
  simp only [State.bitAt, State.writeBits_bits, State.writeBits_epoch, Memory.read?_write]
  split
  · rename_i h
    rw [List.getD_eq_getElem?_getD, List.getElem?_eq_getElem (by omega)]
    rfl
  · rfl

/-! ### Samples and SAMPLE_W -/

/-- What it is for a sample to fit a fixed width. -/
theorem sampleFits_some (w : Nat) (v : Int) :
    sampleFits (some w) v = true ↔ -(2 ^ (w - 1) : Int) ≤ v ∧ v < (2 ^ (w - 1) : Int) := by
  simp [sampleFits]

@[simp] theorem sampleFits_none (v : Int) : sampleFits none v = true := rfl

/-- A free value brought into range fits. -/
theorem sampleFits_freeInRange (width : Option Nat) (v : Int) : sampleFits width (freeInRange width v) = true := by
  rcases width with _ | w
  · rfl
  · rw [sampleFits_some]
    simp only [freeInRange]
    rcases w with _ | w
    · simp [Int.bmod_one]
    · have e : ((2 : Int) ^ (w + 1)) = ((2 ^ (w + 1) : Nat) : Int) := by push_cast; rfl
      have h : (0 : Nat) < 2 ^ (w + 1) := Nat.pos_of_ne_zero (by positivity)
      have h1 := Int.le_bmod (x := v) h
      have h2 := Int.bmod_lt (x := v) h
      have h3 : ((2 ^ (w + 1) : Nat) : Int) = 2 * 2 ^ w := by push_cast; ring
      rw [h3] at h1 h2
      simp only [Nat.add_sub_cancel]
      omega

/-- Every sample is in range when the listed ones are (00_scope.md R6). -/
theorem State.waveAt_fits {s : State} (h : ∀ c ∈ s.wave, sampleFits s.params.sampleWidth c.2 = true) (i : Nat) :
    sampleFits s.params.sampleWidth (s.waveAt i) = true := by
  unfold State.waveAt
  cases e : Memory.read? s.wave i with
  | none => exact sampleFits_freeInRange _ _
  | some v => exact h _ (Memory.mem_of_read? e)

/-- What E410ENC stores for a value is in range. -/
theorem State.storedSample_fits (s : State) (v : Int) :
    sampleFits s.params.sampleWidth (s.storedSample v) = true := by
  simp only [State.storedSample]
  split
  · assumption
  · exact sampleFits_freeInRange _ _

/-- A value that fits is stored as it is. -/
theorem State.storedSample_of_fits {s : State} {v : Int} (h : sampleFits s.params.sampleWidth v = true) :
    s.storedSample v = v := by
  simp [State.storedSample, h]

end Sys2Proof.Machine
end

