-- ==== Sys2Proof/Laws/PerInstr.lean ====
section
/-! SUPPORT. The family EncodeFields: the four fields of a well-formed command's word are those of its row in
30_encoding.md R62. -/

namespace Sys2Proof.Laws

theorem commandWord_fields {op c b a : Nat} (ho : op < 256) (hc : c < 256) (hb : b < 256) (ha : a < 256) :
    opField (commandWord op c b a) = op ∧ cField (commandWord op c b a) = c ∧ bField (commandWord op c b a) = b ∧
      aField (commandWord op c b a) = a := by
  have h : (commandWord op c b a).toNat = op * 2 ^ 24 + c * 2 ^ 16 + b * 2 ^ 8 + a := by
    simp only [commandWord, BitVec.toNat_ofNat]
    omega
  simp only [opField, cField, bField, aField, h]
  omega

namespace EncodeFields

/-- The fields `op`, `c`, `b`, `a` of the row of R62, with the operands in place. -/
def rowFields : Instr → Nat × Nat × Nat × Nat
  | .nop => (0x00, 0, 0, 0)
  | .rowpar rows cols ptype => (0x01, ptype.toNat, cols, rows)
  | .colpar rows cols ptype => (0x02, ptype.toNat, cols, rows)
  | .blkpar rows cols ptype => (0x03, ptype.toNat, cols, rows)
  | .pulses => (0x10, 0, 0, 0)
  | .clksel clk => (0x11, 0, 0, clk)
  | .lwfind => (0x12, 0, 0, 0)
  | .lwsync clk => (0x13, 0, 0, clk)
  | .x50read clk => (0x20, 0, 0, clk)
  | .x50code => (0x21, 0, 0, 0)
  | .x05dec addr readCmd => (0x30, readCmd.toNat, 0, addr)
  | .x05test readCmd => (0x31, readCmd.toNat, 0, 0)
  | .psk2map => (0x32, 0, 0, 0)
  | .x05info => (0x33, 0, 0, 0)
  | .e410enc clk => (0x40, 0, 0, clk)
  | .e410dec => (0x41, 0, 0, 0)
  | .e410wchk clk => (0x42, 0, 0, clk)
  | .rst => (0xFF, 0, 0, 0)

/-- The fields of the word of a well-formed command are its row's. -/
def Statement (i : Instr) : Prop :=
  wellFormed i = true →
    (opField (encode i), cField (encode i), bField (encode i), aField (encode i)) = rowFields i

theorem of_fields {i : Instr} {op c b a : Nat} (he : encode i = commandWord op c b a) (hr : rowFields i = (op, c, b, a))
    (ho : op < 256) (hc : c < 256) (hb : b < 256) (ha : a < 256) :
    (opField (encode i), cField (encode i), bField (encode i), aField (encode i)) = rowFields i := by
  obtain ⟨h1, h2, h3, h4⟩ := commandWord_fields ho hc hb ha
  rw [he, hr, h1, h2, h3, h4]

theorem flag_fits (b : Bool) : b.toNat < 256 := by cases b <;> decide

theorem nop : Statement .nop := fun _ => by decide
theorem rowpar (rows cols : Nat) (ptype : Bool) : Statement (.rowpar rows cols ptype) := fun h => by
  simp only [wellFormed, fitsByte, Bool.and_eq_true, decide_eq_true_eq] at h
  exact of_fields rfl rfl (by decide) (flag_fits ptype) h.2 h.1
theorem colpar (rows cols : Nat) (ptype : Bool) : Statement (.colpar rows cols ptype) := fun h => by
  simp only [wellFormed, fitsByte, Bool.and_eq_true, decide_eq_true_eq] at h
  exact of_fields rfl rfl (by decide) (flag_fits ptype) h.2 h.1
theorem blkpar (rows cols : Nat) (ptype : Bool) : Statement (.blkpar rows cols ptype) := fun h => by
  simp only [wellFormed, fitsByte, Bool.and_eq_true, decide_eq_true_eq] at h
  exact of_fields rfl rfl (by decide) (flag_fits ptype) h.2 h.1
theorem pulses : Statement .pulses := fun _ => by decide
theorem clksel (clk : Nat) : Statement (.clksel clk) := fun h => by
  exact of_fields rfl rfl (by decide) (by decide) (by decide) (of_decide_eq_true h)
theorem lwfind : Statement .lwfind := fun _ => by decide
theorem lwsync (clk : Nat) : Statement (.lwsync clk) := fun h => by
  exact of_fields rfl rfl (by decide) (by decide) (by decide) (of_decide_eq_true h)
theorem x50read (clk : Nat) : Statement (.x50read clk) := fun h => by
  exact of_fields rfl rfl (by decide) (by decide) (by decide) (of_decide_eq_true h)
theorem x50code : Statement .x50code := fun _ => by decide
theorem x05dec (addr : Nat) (readCmd : Bool) : Statement (.x05dec addr readCmd) := fun h => by
  exact of_fields rfl rfl (by decide) (flag_fits readCmd) (by decide) (of_decide_eq_true h)
theorem x05test (readCmd : Bool) : Statement (.x05test readCmd) := fun _ => by
  exact of_fields rfl rfl (by decide) (flag_fits readCmd) (by decide) (by decide)
theorem psk2map : Statement .psk2map := fun _ => by decide
theorem x05info : Statement .x05info := fun _ => by decide
theorem e410enc (clk : Nat) : Statement (.e410enc clk) := fun h => by
  exact of_fields rfl rfl (by decide) (by decide) (by decide) (of_decide_eq_true h)
theorem e410dec : Statement .e410dec := fun _ => by decide
theorem e410wchk (clk : Nat) : Statement (.e410wchk clk) := fun h => by
  exact of_fields rfl rfl (by decide) (by decide) (by decide) (of_decide_eq_true h)
theorem rst : Statement .rst := fun _ => by decide

end EncodeFields
end Sys2Proof.Laws
end

