-- ==== Sys2Proof/Tests/Slice0.lean ====
section
/-! SUPPORT. Tests of single definitions and steps, each with the place of spec/ its expected result comes from, and for
every statement with hypotheses a state and operands that meet them. -/

namespace Sys2Proof.Tests

open Sys2Proof Sys2Proof.Machine Sys2Proof.Claims

/-! ### Well-formedness: each check refuses -/

theorem test_wellFormed_rowpar : wellFormed (.rowpar 256 9 false) = false ∧ wellFormed (.rowpar 5 256 false) = false := by
  decide
theorem test_wellFormed_colpar : wellFormed (.colpar 256 9 false) = false ∧ wellFormed (.colpar 5 256 false) = false := by
  decide
theorem test_wellFormed_blkpar : wellFormed (.blkpar 256 9 false) = false ∧ wellFormed (.blkpar 5 256 false) = false := by
  decide
theorem test_wellFormed_clocks : wellFormed (.clksel 256) = false ∧ wellFormed (.lwsync 256) = false ∧
    wellFormed (.x50read 256) = false ∧ wellFormed (.e410enc 256) = false ∧ wellFormed (.e410wchk 256) = false := by
  decide
theorem test_wellFormed_x05dec : wellFormed (.x05dec 256 true) = false ∧ wellFormed (.x05dec 255 true) = true := by
  decide

/-! ### Decoding: words written out field by field (`op`, `c`, `b`, `a`) from 30_encoding.md R62 -/

theorem test_decode_parity_family :
    decode (0b00000000#8 ++ 0b00000000#8 ++ 0b00000000#8 ++ 0b00000000#8) = some .nop ∧
    decode (0b00000001#8 ++ 0b0000000#7 ++ 0b1#1 ++ 0b00001001#8 ++ 0b00000101#8) = some (.rowpar 5 9 true) ∧
    decode (0b00000010#8 ++ 0b0000000#7 ++ 0b0#1 ++ 0b00001001#8 ++ 0b00000101#8) = some (.colpar 5 9 false) ∧
    decode (0b00000011#8 ++ 0b0000000#7 ++ 0b1#1 ++ 0b11111111#8 ++ 0b10000000#8) = some (.blkpar 128 255 true) := by
  decide
theorem test_decode_clock_family :
    decode (0b00010000#8 ++ 0#8 ++ 0#8 ++ 0#8) = some .pulses ∧
    decode (0b00010001#8 ++ 0#8 ++ 0#8 ++ 0b00101000#8) = some (.clksel 40) ∧
    decode (0b00010010#8 ++ 0#8 ++ 0#8 ++ 0#8) = some .lwfind ∧
    decode (0b00010011#8 ++ 0#8 ++ 0#8 ++ 0b00001000#8) = some (.lwsync 8) := by decide
theorem test_decode_block_family :
    decode (0b00100000#8 ++ 0#8 ++ 0#8 ++ 0b01000000#8) = some (.x50read 64) ∧
    decode (0b00100001#8 ++ 0#8 ++ 0#8 ++ 0#8) = some .x50code := by decide
theorem test_decode_cascade_family :
    decode (0b00110000#8 ++ 0b0000000#7 ++ 0b1#1 ++ 0#8 ++ 0b00000011#8) = some (.x05dec 3 true) ∧
    decode (0b00110001#8 ++ 0b0000000#7 ++ 0b1#1 ++ 0#8 ++ 0#8) = some (.x05test true) ∧
    decode (0b00110010#8 ++ 0#8 ++ 0#8 ++ 0#8) = some .psk2map ∧
    decode (0b00110011#8 ++ 0#8 ++ 0#8 ++ 0#8) = some .x05info := by decide
theorem test_decode_frame_family :
    decode (0b01000000#8 ++ 0#8 ++ 0#8 ++ 0b01000000#8) = some (.e410enc 64) ∧
    decode (0b01000001#8 ++ 0#8 ++ 0#8 ++ 0#8) = some .e410dec ∧
    decode (0b01000010#8 ++ 0#8 ++ 0#8 ++ 0b00010000#8) = some (.e410wchk 16) ∧
    decode (0b11111111#8 ++ 0#8 ++ 0#8 ++ 0#8) = some .rst := by decide
/-- R64: a reserved op, a must-be-0 bit of `c`, of `b` and of `a` set; V9d and R192's corner case. -/
theorem test_decode_illegal : decode 0x04000000 = none ∧ decode 0x01020905 = none ∧ decode 0x11000108 = none ∧
    decode 0x10000001 = none ∧ decode 0xFF000001 = none := by decide
theorem test_encode_words : encode (.rowpar 5 9 true) = 0x01010905 ∧ encode (.x05dec 3 true) = 0x30010003 ∧
    encode (.e410enc 64) = 0x40000040 := by decide

/-! ### Helpers for small states -/

/-- The state an outcome leaves. -/
def after (o : Host.Outcome State Fault Refusal) : State :=
  match o with
  | .next t => t
  | .fault _ => State.reset
  | .refused _ => State.reset

theorem next_after_exec (i : Instr) (s : State) (h : ∃ t, exec i s = .next t) : exec i s = .next (after (exec i s)) := by
  obtain ⟨t, e⟩ := h
  rw [e]
  rfl

/-- Bits written as a number, first bit the most significant of `n` bits. -/
def bitsOf (n v : Nat) : List Bool := (List.range n).map (fun i => v.testBit (n - 1 - i))

/-- Reset with bits loaded (30_encoding.md R75, LOADBITS). -/
def withBits (bs : List Bool) : State :=
  { State.reset with bits := Memory.cells 0 bs, blen := toReg bs.length }

/-- Reset with a waveform loaded (R75, LOADWAVE). -/
def withWave (ws : List Int) : State :=
  { State.reset with wave := Memory.cells 0 ws, wlen := toReg ws.length }

/-- Reset with captured pulses and a clock. -/
def withPulses (clk tol : Word) (ws : List Word) : State :=
  { State.reset with pulse := Memory.cells 0 ws, plen := toReg ws.length, clk := clk, tol := tol }

/-- Reset with a host's list of one transaction. -/
def withHost (t : Transaction) : State := { State.reset with pending := [.transaction t] }

/-- `Wave(w0, w1, ...)` of 95_test_vectors.md. -/
def waveOf (ws : List Nat) : List Int :=
  1 :: ws.flatMap (fun w => List.replicate (w / 2) 0 ++ List.replicate (w - w / 2) 1) ++ [0]

/-- `Blk50(0xDEADBEEF)`. -/
def deadbeef : List Bool := bitsOf 45 0b110111100101011011101111100111011111001000100
/-- The preamble and `Blk05(0x00040072)` (V36). -/
def response72 : List Bool := preamble ++ bitsOf 45 0b010011100000000000001000001000000000011011100
/-- The frame of 0x0F0368568B (V40). -/
def frame40 : List Bool := bitsOf 64 0b1111111110000011110000000011001100100010101001100100011011100100

/-! ### Parity Validator -/

/-- P1: NOP after a failed command gives 0x410. -/
theorem test_nop : (after (exec .nop (State.reset.raise .parityFailed))).status.toWord = 0x410 := by decide
/-- V1 and V6. -/
theorem test_rowpar : (after (exec (.rowpar 5 9 false) (withBits deadbeef))).status.toWord = 0x010 ∧
    (after (exec (.rowpar 5 9 false) (withBits (deadbeef.set 8 true)))).status.toWord = 0x405 := by decide
/-- V6 and V7. -/
theorem test_colpar : (after (exec (.colpar 5 9 false) (withBits (deadbeef.set 8 true)))).status.toWord = 0x010 ∧
    (after (exec (.colpar 5 9 false) (withBits (deadbeef.set 36 true)))).status.toWord = 0x405 := by decide
/-- V8 and V3. -/
theorem test_blkpar : (after (exec (.blkpar 5 9 false) (withBits (deadbeef.set 44 true)))).status.toWord = 0x010 ∧
    (after (exec (.blkpar 5 10 false) (withBits deadbeef))).status.toWord = 0x406 := by decide
/-- V9: a zero dimension. -/
theorem test_zero_rows : (after (exec (.rowpar 0 9 false) (withBits deadbeef))).status.toWord = 0x408 := by decide

/-! ### Clock and Window Recovery -/

/-- V10. -/
theorem test_pulses :
    let t := after (exec .pulses (withWave [0, 1, 0, 0, 1, 1, 0, 0, 0, 1, 0]))
    t.skip0 = 2 ∧ t.plen = 2 ∧ t.pulseRange 0 2 = [4, 4] ∧ t.minw = 4 ∧ t.status.toWord = 0x010 := by decide
/-- V10c and V10a. -/
theorem test_pulses_full_and_flat :
    (after (exec .pulses { withWave (waveOf [8, 8, 8]) with params := { Params.default with pmax := 2 } })).status.toWord =
      0x110 ∧
    (after (exec .pulses (withWave [5, 5, 5, 5]))).skip0 = 4 := by decide +kernel
/-- V12 and S4: 9 matches period 8, 10 matches nothing. -/
theorem test_clksel :
    (after (exec (.clksel 0) { State.reset with plen := 1, minw := 9 })).clk = 8 ∧
    (after (exec (.clksel 0) { State.reset with plen := 1, minw := 10 })).status.toWord = 0x401 := by decide
/-- V13. -/
theorem test_clksel_explicit : (after (exec (.clksel 40) State.reset)).tol = 5 ∧
    (after (exec (.clksel 48) State.reset)).status.toWord = 0x408 := by decide
/-- V15. -/
theorem test_lwfind :
    let t := after (exec .lwfind { withPulses 8 1 [16, 24, 16, 24, 12, 16] with skip0 := 3 })
    t.mkidx = 1 ∧ t.mkph = 4 ∧ t.mkpos = 19 ∧ t.pidx = 5 ∧ t.status.found = true := by decide
/-- V15a: the clamp of the phase, and V15b. -/
theorem test_lwfind_clamp : (after (exec .lwfind (withPulses 8 1 [24, 16, 24, 7]))).mkph = 0 ∧
    (after (exec .lwfind (withPulses 8 1 [24, 16, 24, 6]))).status.toWord = 0x402 := by decide
/-- V16. -/
theorem test_lwsync :
    let t := after (exec (.lwsync 0) (withWave (waveOf [24, 16, 24, 12, 8, 8, 24, 16, 24, 9])))
    t.m1ph = 4 ∧ t.m2idx = 6 ∧ t.pidx = 10 ∧ t.status.toWord = 0x30 := by decide +kernel
/-- V16a. -/
theorem test_lwsync_partial :
    (after (exec (.lwsync 0) (withWave (waveOf [24, 16, 24, 12, 8, 8, 8])))).status.toWord = 0x10 := by decide +kernel

/-! ### Block Decoder EM4x50 -/

/-- Two markers around one 8-sample pulse: a short form of V20. -/
def oneBlockWave : State := withWave (waveOf [24, 16, 24, 8, 8, 24, 16, 24, 8])

/-- V20's results on the short waveform: one block, from the answer. -/
theorem test_x50read :
    let t := after (exec (.x50read 0) { oneBlockWave with demodIn := [some deadbeef] })
    t.nblk = 1 ∧ t.blk[0] = 0xDEADBEEF ∧ t.blkpf = 1 ∧ t.wbase = 73 ∧ t.status.toWord = 0x70 := by decide +kernel
/-- V21's flipped bit and V24's failing demodulator. -/
theorem test_x50read_bad_answers :
    (after (exec (.x50read 0) { oneBlockWave with demodIn := [some (deadbeef.set 2 true)] })).blk[0] = 0xFEADBEEF ∧
    (after (exec (.x50read 0) { oneBlockWave with demodIn := [none] })).status.toWord = 0x463 := by decide +kernel
/-- V26. -/
theorem test_x50code : (after (exec .x50code (withBits deadbeef))).word = 0xDEADBEEF ∧
    (after (exec .x50code { withBits deadbeef with blen := 44 })).status.toWord = 0x406 := by decide

/-! ### Scheme Cascade Decoder EM4x05 -/

/-- A response has arrived and some samples are there. -/
def responded : State := { withWave [0, 1, 0] with respValid := true }

/-- V30. -/
theorem test_x05dec :
    let t := after (exec (.x05dec 3 true)
      { responded with clockIn := [none, some ⟨32, by decide⟩]
                       demodIn := [some (bitsOf 2 0b10 ++ response72 ++ bitsOf 3 0)] })
    t.stage.toWord = 0x0302 ∧ stgerrWord t.stgerr = 3 ∧ t.preoff = 2 ∧ t.word = 0x00040072 ∧ t.calls.length = 3 := by
  decide +kernel
/-- V32 and V33. -/
theorem test_x05dec_failures :
    (after (exec (.x05dec 0 true)
      { responded with clockIn := [none, none, none], demodIn := [none, none, none] })).stage.toWord = 0xFF00 ∧
    (after (exec (.x05dec 0 true) State.reset)).status.toWord = 0x407 := by decide +kernel
/-- V36. -/
theorem test_x05test :
    let t := after (exec (.x05test true) (withBits response72))
    t.word = 0x00040072 ∧ t.blen = 32 ∧ t.status.toWord = 0x10 := by decide +kernel
/-- V36d: no 4-bit match. -/
theorem test_x05test_no_preamble :
    (after (exec (.x05test false) (withBits (bitsOf 6 0b101011)))).status.toWord = 0x404 := by decide
/-- V37. -/
theorem test_psk2map :
    (after (exec .psk2map (withBits (bitsOf 8 0b00110100)))).bitRange 0 8 = bitsOf 8 0b00101110 := by decide
/-- V38. -/
theorem test_x05info :
    let t := after (exec .x05info { State.reset with x := #v[0x00040072, 0x12345678, 0, 0] })
    t.chiptype = 9 ∧ t.captype = 3 ∧ t.custcode = 0x200 ∧ t.serial = 0x12345678 := by decide

/-! ### Frame Codec EM410x -/

/-- The ID of V40. -/
def id40 : State := { State.reset with x := #v[0x0368568B, 0x0F, 0, 0] }

/-- V40. -/
theorem test_e410enc_frame : frame410 id40.id64 = frame40 := by decide
/-- R153 at the first bit, a 1, and V44. -/
theorem test_e410enc : (after (exec (.e410enc 8) id40)).waveRange 0 8 = [0, 0, 0, 0, 1, 1, 1, 1] ∧
    (after (exec (.e410enc 64) { State.reset with x := #v[0, 0x100, 0, 0] })).status.toWord = 0x408 := by decide +kernel
/-- V40 and V46. -/
theorem test_e410dec :
    let t := after (exec .e410dec (withBits frame40))
    t.idlo = 0x0368568B ∧ t.idhi = 0x0F ∧ t.status.toWord = 0x290 ∧
      (after (exec .e410dec (withBits (frame40.set 63 true)))).status.toWord = 0x40B := by decide +kernel
/-- V47 and V49. -/
theorem test_e410dec_parity_and_xl :
    (after (exec .e410dec (withBits (frame40.set 59 true)))).status.toWord = 0x405 ∧
    (after (exec .e410dec { State.reset with xlhi := 1 })).status.toWord = 0x090 := by decide +kernel
/-- V45. -/
theorem test_e410wchk : (after (exec (.e410wchk 64) id40)).status.toWord = 0x010 ∧
    (after (exec (.e410wchk 50) id40)).status.toWord = 0x408 := by decide
/-- R192: STATUS 0 and CFG 8 after any run. -/
theorem test_rst :
    let t := after (exec .rst ({ withBits deadbeef with cfg := { toldiv := 3, maxErr := 1 } }.raise .timeout))
    t.readReg 0x09 = 0 ∧ t.readReg 0x0A = 8 := by decide

/-! ### Steps and the host's interface -/

/-- A step from reset with a command placed runs it (P2: E410DEC on no bits is BufferTooShort). -/
theorem test_step_runs_placed_command :
    (after (step (State.reset.withFetchWord 32 0x41000000))).status.toWord = 0x406 ∧
    (after (step (State.reset.withFetchWord 32 0x01020905))).status.toWord = 0x40A := by decide
theorem test_decodeTableWord : decodeTableWord 32 0x30010003 = some (.x05dec 3 true) ∧
    decodeTableWord 32 0x04000000 = none := by decide
/-- R13, R73: a read-only register ignores a write, a length above its capacity is refused. -/
theorem test_register_writes : (after (step (withHost (.wr 0x09 7)))).replies = [.done] ∧
    (after (step (withHost (.wr 0x10 0x10001)))).replies = [.refused] := by decide
/-- R75: LOADBITS. -/
theorem test_loadBits : loadBits [true, false] = [.wrbits 0 1, .wrbits 1 0, .wr 0x12 2, .wr 0x13 0] := by decide

/-! ### Witnesses: states and operands that meet the hypotheses of each statement, clause by clause -/

theorem witness_DecodeOfEncodeIsTheCommand : wellFormed (.rowpar 255 255 true) = true := by decide
theorem witness_EncodeOfDecodeIsTheWord : decode 0x30010003 = some (.x05dec 3 true) := by decide
theorem witness_DecodeAgreesWithMatchAndMask :
    decode 0x31010000 = some (.x05test true) ∧
    (0x31010000 : Word) &&& (matchMask (.x05test false)).2 = (matchMask (.x05test false)).1 := by decide

theorem witness_StepRunsTheDecodedCommand :
    (withHost (.wr 0x08 0x41000000)).params.wf ∧
    (withHost (.wr 0x08 0x41000000)).pending = [.transaction (.wr 0x08 0x41000000)] ∧
    decode 0x41000000 = some .e410dec := by decide

/-- A reserved op, and a must-be-0 bit set. -/
theorem witness_IllegalWordChangesStatusOnly :
    (withHost (.wr 0x08 0x04000000)).params.wf ∧
    (∀ j : Instr, (0x04000000 : Word) &&& (matchMask j).2 ≠ (matchMask j).1) ∧
    (∀ j : Instr, (0x01020905 : Word) &&& (matchMask j).2 ≠ (matchMask j).1) := by
  refine ⟨by decide, fun j => ?_, fun j => ?_⟩ <;> cases j <;> simp only [matchMask] <;> decide

theorem witness_IdleAndImpossibleSteps :
    (State.reset.params.wf ∧ State.reset.pending = []) ∧
    ¬ ({ State.reset with params := { Params.default with bmax := 63 } } : State).params.wf := by decide

/-- R6 and D8 bound PMAX and BMAX from below only. -/
theorem test_params_unbounded_capacities :
    ({ Params.default with pmax := 2 ^ 40, bmax := 2 ^ 40 } : Params).wf ∧
    ¬ ({ Params.default with wmax := 2 ^ 32 } : Params).wf := by decide

/-- The last readable element of each buffer. -/
theorem witness_ReadsChangeNothing :
    (withHost (.rd 0x3F)).params.wf ∧ (withHost (.rd 0x3F)).pending = [.transaction (.rd 0x3F)] ∧
    2 < (withWave [0, 1, 0]).wlen.toNat ∧ 44 < (withBits deadbeef).blen.toNat ∧
    3 < (withPulses 8 1 [24, 16, 24, 7]).plen.toNat := by decide

/-- The last register, a number between registers and one above 0x3F. -/
theorem witness_RegistersReadTheirFields :
    (withHost (.rd 0x3F)).params.wf ∧ (withHost (.rd 0x3F)).pending = [.transaction (.rd 0x3F)] ∧
    (0x3F, (withHost (.rd 0x3F)).serial) ∈ registerMap (withHost (.rd 0x3F)) ∧
    (∀ n ∈ [0x08, 0x3B, 0x40], n ∉ [0x09, 0x0A, 0x32, 0x33] ∧
      n ∉ (registerMap (withHost (.rd 0x3F))).map Prod.fst) := by decide

/-- V30's STAGE and STGERR: stage 2 won, stage 1 failed with kind 3; fields at the ends of their ranges. -/
theorem witness_PackedRegistersReadTheirFields :
    let s : State := { State.reset with
      stage := { won := 2, tried := 0x83 }
      stgerr := (Vector.replicate 8 ErrKind.none).set 7 .frameError }
    s.readReg 0x32 = 0x8302 ∧ s.readReg 0x33 = 0xB0000000 ∧ 7 < 8 ∧ (4 ≤ 4 ∧ 4 < 8 ∨ 16 ≤ 4) := by decide

/-- The first excluded value of each clause. -/
theorem witness_ExcludedTransactionsAreRefused :
    State.reset.params.wf ∧ State.reset.params.wmax < (0x10001 : Word).toNat ∧
    State.reset.params.bmax < (0x10001 : Word).toNat ∧ State.reset.params.wmax ≤ 65536 ∧
    (({ Params.default with sampleWidth := some 8 } : Params).sampleWidth = some 8 ∧
      ((-129 : Int) < -(2 ^ (8 - 1)) ∧ (2 : Int) ^ (8 - 1) ≤ 128)) ∧
    (withWave [0, 1, 0]).wlen.toNat ≤ 3 ∧ (State.reset.params.bmax ≤ 65536 ∧ 2 ≤ 2) ∧
    (withBits deadbeef).blen.toNat ≤ 45 ∧ (withPulses 8 1 [24, 16, 24, 7]).plen.toNat ≤ 4 := by decide

/-- WLEN and BLEN exactly at their capacities, and a read-only register. -/
theorem witness_WrittenRegistersReadBack :
    State.reset.params.wf ∧ (0x10 : Nat) ≠ 0x08 ∧ (0x10000 : Word).toNat ≤ State.reset.params.wmax ∧
    (0x10000 : Word).toNat ≤ State.reset.params.bmax ∧ (0x09 : Nat) ≠ 0x08 := by decide

/-- The last element of each buffer; the ends of the range of a fixed SAMPLE_W, and any integer when it is open. -/
theorem witness_WrittenElementsReadBack :
    State.reset.params.wf ∧ 65535 < State.reset.params.wmax ∧ InSampleRange State.reset 1000000 ∧
    (∀ v ∈ [-128, 127],
      InSampleRange { State.reset with params := { Params.default with sampleWidth := some 8 } } v) ∧
    (65535 < State.reset.params.bmax ∧ 1 < 2) := by
  refine ⟨by decide, by decide, fun w h => (nomatch h), fun v hv w h => ?_, by decide, by decide⟩
  cases h
  simp only [List.mem_cons, List.not_mem_nil, or_false] at hv
  rcases hv with rfl | rfl <;> decide

theorem witness_EveryTransactionAdvancesByOne :
    (withHost (.wrbits 0 1)).params.wf ∧ (withHost (.wrbits 0 1)).pending = [.transaction (.wrbits 0 1)] := by decide

theorem witness_ResetInputActsAsRst :
    ({ State.reset with pending := [.resetInput] } : State).params.wf ∧
    ({ State.reset with pending := [.resetInput] } : State).pending = [.resetInput] := by decide

/-- Without an error and, for the other clause, with one. -/
theorem witness_EveryCommandEndsAndReports :
    (after (exec .nop State.reset)).status.err = .none ∧ Instr.nop ≠ .rst ∧
    (after (exec (.rowpar 0 0 false) State.reset)).status.err ≠ .none := by decide

theorem witness_EmptyVerdictOnlyFromPulsesAndX50read :
    exec .pulses (withWave [5, 5]) = .next (after (exec .pulses (withWave [5, 5]))) ∧ Instr.pulses ≠ .rst ∧
    (after (exec .pulses (withWave [5, 5]))).status.err = .none ∧
    (after (exec .pulses (withWave [5, 5]))).status.pass = false := ⟨rfl, by decide, by decide, by decide⟩

theorem witness_StatusLayoutAndWriters :
    exec .e410dec (withBits frame40) = .next (after (exec .e410dec (withBits frame40))) ∧ Instr.e410dec ≠ .rst ∧
    op .e410dec ∉ [0x13, 0x20] ∧ op .nop ∉ [0x12, 0x41] ∧ op .nop ∉ [0x10, 0x13, 0x20] ∧ op .nop ∉ [0x41] ∧
    (State.reset.raise .timeout).status.errSeen = true := by
  refine ⟨next_after_exec _ _ ?_, by decide, by decide, by decide, by decide, by decide, by decide⟩
  simp only [exec, execE410dec]
  split_ifs <;> exact ⟨_, rfl⟩

theorem witness_OnlyTheListedCommandsWriteARegister :
    exec .nop State.reset = .next (after (exec .nop State.reset)) ∧ Instr.nop ≠ .rst ∧
    op .nop ∉ [0x40, 0x20, 0x30, 0x31, 0x10, 0x13, 0x12, 0x11, 0x21, 0x41, 0x33] := ⟨rfl, by decide, by decide⟩

theorem witness_OnlyTheListedCommandsWriteABuffer :
    exec (.rowpar 5 9 false) State.reset = .next (after (exec (.rowpar 5 9 false) State.reset)) ∧
    Instr.rowpar 5 9 false ≠ .rst ∧ op (.rowpar 5 9 false) ∈ [0x01, 0x02, 0x03] ∧
    op (.rowpar 5 9 false) ∉ [0x40, 0x10, 0x13, 0x20, 0x30, 0x31, 0x32] := ⟨rfl, by decide, by decide, by decide⟩

theorem witness_OnlyDecodersCallCollaborators :
    exec .psk2map State.reset = .next (after (exec .psk2map State.reset)) ∧ op .psk2map ∉ [0x20, 0x30] ∧
    op (.x50read 0) = 0x20 := ⟨rfl, by decide, by decide⟩

/-- The state after reset with one transaction to come meets the invariant. -/
theorem witness_EveryStepKeepsTheInvariant : (withHost (.wrbits 0 1)).Inv where
  params := by decide
  wave := ⟨List.Pairwise.nil, fun c h => nomatch h⟩
  pulse := ⟨List.Pairwise.nil, fun c h => nomatch h⟩
  bits := ⟨List.Pairwise.nil, fun c h => nomatch h⟩
  samples := fun c h => nomatch h
  wlen := by decide
  blen := by decide
  plen := by decide
  pulses := ⟨fun i h => absurd h (Nat.not_lt_zero i), fun h => absurd rfl h, fun _ => rfl, by decide⟩
  clock := .inl rfl
  tolerance := by decide
  blocks := by decide
  blockFlags := fun b h => by simp [withHost, State.reset] at h
  stageWon := by decide
  preambleOffset := by decide
  errorSeen := fun h => absurd rfl h

/-- A one-bit SAMPLE_W and a WAVE that lists nothing: the state of the witness before with that parameter. -/
theorem witness_EverySampleLiesInItsRange :
    ({ withHost (.wrbits 0 1) with params := { Params.default with sampleWidth := some 1 } } : State).Inv :=
  { witness_EveryStepKeepsTheInvariant with
    params := by decide
    samples := fun c h => nomatch h
    pulses := ⟨fun i h => absurd h (Nat.not_lt_zero i), fun h => absurd rfl h, fun _ => rfl, by decide⟩ }

/-- Two states that differ in an unreadable bit. -/
theorem witness_CommandsNeverReadPastALength :
    SameReadable State.reset { State.reset with bits := [(0, true)] } ∧
    State.reset ≠ { State.reset with bits := [(0, true)] } :=
  ⟨⟨rfl, fun _ _ => rfl, fun _ _ => rfl, fun i h => absurd h (Nat.not_lt_zero i)⟩, by decide⟩

theorem rowsPass_of_check {bit : Nat → Bool} {rows cols : Nat} {pt : Bool}
    (h : ∀ r < rows - 1, ones (fun c => bit (r * cols + c)) cols % 2 = pt.toNat) : RowsPass bit rows cols pt :=
  fun r hr => h r (by omega)

theorem colsPass_of_check {bit : Nat → Bool} {rows cols : Nat} {pt : Bool}
    (h : ∀ c < cols - 1, ones (fun r => bit (r * cols + c)) rows % 2 = pt.toNat) : ColsPass bit rows cols pt :=
  fun c hc => h c (by omega)

theorem deadbeef_rows_pass : RowsPass (offsetBit (withBits deadbeef)) 5 9 false := rowsPass_of_check (by decide +kernel)
theorem deadbeef_cols_pass : ColsPass (offsetBit (withBits deadbeef)) 5 9 false := colsPass_of_check (by decide +kernel)

/-- The bits that fit exactly, one too many, and a flipped data bit. -/
theorem witness_RowparOutcome :
    ((0 : Nat) = 0 ∨ (9 : Nat) = 0) ∧ (withBits deadbeef).blen.toNat < (withBits deadbeef).boff.toNat + 2 * 23 ∧
    (withBits deadbeef).boff.toNat + 5 * 9 ≤ (withBits deadbeef).blen.toNat ∧
    ¬ RowsPass (offsetBit (withBits (deadbeef.set 2 true))) 5 9 false ∧
    RowsPass (offsetBit (withBits deadbeef)) 5 9 false :=
  ⟨by decide, by decide, by decide, fun h => absurd (h 0 (by decide)) (by decide +kernel), deadbeef_rows_pass⟩

theorem witness_ColparOutcome :
    ((5 : Nat) = 0 ∨ (0 : Nat) = 0) ∧ (withBits deadbeef).blen.toNat < (withBits deadbeef).boff.toNat + 2 * 23 ∧
    (withBits deadbeef).boff.toNat + 5 * 9 ≤ (withBits deadbeef).blen.toNat ∧
    ¬ ColsPass (offsetBit (withBits (deadbeef.set 36 true))) 5 9 false ∧
    ColsPass (offsetBit (withBits deadbeef)) 5 9 false :=
  ⟨by decide, by decide, by decide, fun h => absurd (h 0 (by decide)) (by decide +kernel), deadbeef_cols_pass⟩

theorem witness_BlkparOutcome :
    (withBits deadbeef).boff.toNat + 5 * 9 ≤ (withBits deadbeef).blen.toNat ∧
    ¬ (RowsPass (offsetBit (withBits (deadbeef.set 8 true))) 5 9 false ∧
      ColsPass (offsetBit (withBits (deadbeef.set 8 true))) 5 9 false) ∧
    RowsPass (offsetBit (withBits deadbeef)) 5 9 false ∧ ColsPass (offsetBit (withBits deadbeef)) 5 9 false :=
  ⟨by decide, fun h => absurd (h.1 0 (by decide)) (by decide +kernel), deadbeef_rows_pass, deadbeef_cols_pass⟩

/-- The corner bit and a data bit of a valid block. -/
theorem witness_SingleFlipDetection :
    (4 < 5 ∧ 8 < 9 ∧ 0 < 5 ∧ 2 < 9) ∧ 5 * 9 ≤ deadbeef.length ∧ rowParityTest deadbeef 5 9 false = .holds ∧
    colParityTest deadbeef 5 9 false = .holds := by decide

/-- Samples that never rise, that rise and stay, and that fall again. -/
theorem witness_PulsesOutcome :
    State.reset.wlen.toNat ≤ State.reset.wbase.toNat ∧
    ((withWave [5, 5]).params.threshHi = .standard ∧ (withWave [5, 5]).params.threshLo = .standard) ∧
    (Extremes (withWave [5, 5]) 5 5 ∧ (withWave [5, 5]).threshHi 5 5 ≤ (withWave [5, 5]).threshLo 5 5) ∧
    (Extremes (withWave [0, 1]) 1 0 ∧ (withWave [0, 1]).threshLo 1 0 < (withWave [0, 1]).threshHi 1 0 ∧
      ∀ j, ¬ NextLow (withWave [0, 1]) 1 0 0 j) ∧
    (Extremes (withWave [0, 1, 0]) 1 0 ∧ NextLow (withWave [0, 1, 0]) 1 0 0 2) := by
  have range2 : ∀ {P : Nat → Prop} {ws : List Int}, (withWave ws).wlen.toNat = 2 → P 0 → P 1 →
      ∀ k, (withWave ws).wbase.toNat ≤ k → k < (withWave ws).wlen.toNat → P k := by
    intro P ws e h0 h1 k _ hk
    rw [e] at hk
    interval_cases k <;> assumption
  refine ⟨by decide, ⟨rfl, rfl⟩, ⟨⟨⟨0, by decide⟩, ⟨0, by decide⟩, ?_⟩, by decide⟩, ⟨⟨⟨1, by decide⟩, ⟨0, by decide⟩, ?_⟩, by decide,
    ?_⟩, ⟨⟨1, by decide⟩, ⟨0, by decide⟩, ?_⟩, ⟨1, by decide, by decide, by decide, ?_, by decide, ?_, by decide⟩⟩
  · exact range2 (ws := [5, 5]) rfl (by decide) (by decide)
  · exact range2 (ws := [0, 1]) rfl (by decide) (by decide)
  · rintro j ⟨h, _, hj, hlen, _, hhi, _⟩
    have : (withWave [0, 1]).wlen.toNat = 2 := rfl
    have h0 : h = 0 := by omega
    subst h0
    exact absurd hhi (by decide)
  · intro k _ hk
    have e : (withWave [0, 1, 0]).wlen.toNat = 3 := rfl
    rw [e] at hk
    interval_cases k <;> decide
  · intro k _ hk
    interval_cases k
    decide
  · intro k h1 hk
    have : k = 1 := by omega
    subst this
    decide

theorem witness_RecordedPulsesLieInsideTheWaveform :
    exec .pulses (withWave [0, 1, 0, 1, 0]) = .next (after (exec .pulses (withWave [0, 1, 0, 1, 0]))) ∧
    0 < (after (exec .pulses (withWave [0, 1, 0, 1, 0]))).plen.toNat := ⟨rfl, by decide⟩

/-- Both ends of the window of period 8, the first width above it, and an explicit clock in and out of the set. -/
theorem witness_ClkselOutcome :
    ({ State.reset with cfg := { toldiv := 0, maxErr := 0 } } : State).cfg.toldiv.toNat = 0 ∧
    (State.reset.cfg.toldiv.toNat ≠ 0 ∧ (48 : Nat) ≠ 0 ∧ 48 ∉ [8, 16, 32, 40, 50, 64, 128]) ∧
    128 ∈ [8, 16, 32, 40, 50, 64, 128] ∧ State.reset.plen = 0 ∧
    (∀ p ∈ [8, 16, 32, 40, 50, 64, 128], ¬ Accepts 8 10 p) ∧ (Accepts 8 7 8 ∧ Accepts 8 9 8) ∧
    (Accepts 4 33 32 ∧ ∀ q ∈ [8, 16, 32, 40, 50, 64, 128], q < 32 → ¬ Accepts 4 33 q) := by
  unfold Accepts
  decide

theorem witness_AcceptanceWindowsOfTheResetTolerance :
    ({ State.reset with plen := 1, minw := 129 } : State).cfg.toldiv = 8 ∧
    ({ State.reset with plen := 1, minw := 129 } : State).plen ≠ 0 := by decide

theorem witness_WindowsAreDisjointFromDivisorSix : (5 : Nat) ≠ 0 ∧ (6 : Nat) ≠ 0 := by decide

/-- No clock; the fourth width one below its bound; the widths at the ends of their bounds. -/
theorem witness_LwfindOutcome :
    State.reset.clk = 0 ∧
    ((withPulses 8 1 [24, 16, 24, 6]).clk ≠ 0 ∧ NoMarker (withPulses 8 1 [24, 16, 24, 6]) 0) ∧
    (LowestMarker (withPulses 8 1 [25, 17, 23, 7]) 0 0) := by
  refine ⟨rfl, ⟨by decide, ?_⟩, ⟨by decide, by decide, ?_, fun k _ h => absurd h (Nat.not_lt_zero k)⟩⟩
  · intro i _ hi
    have e : (withPulses 8 1 [24, 16, 24, 6]).plen.toNat = 4 := rfl
    have : i = 0 := by omega
    subst this
    unfold Match4
    decide
  · unfold Match4
    decide

/-- A waveform with two markers around a pulse, and its states after PULSES and CLKSEL within LWSYNC. -/
def twoMarkersCaptured : State := after (exec .pulses (oneBlockWave.setComplete false))
def twoMarkersClocked : State := after (exec (.clksel 0) twoMarkersCaptured)

theorem twoMarkers_first : LowestMarker twoMarkersClocked 0 0 := by
  refine ⟨by decide, by decide +kernel, ?_, fun k _ h => absurd h (Nat.not_lt_zero k)⟩
  unfold Match4
  decide +kernel

theorem twoMarkers_second : LowestMarker twoMarkersClocked 4 5 := by
  refine ⟨by decide, by decide +kernel, ?_, ?_⟩
  · unfold Match4
    decide +kernel
  · intro k h1 h2
    have : k = 4 := by omega
    subst this
    unfold Match4
    decide +kernel

/-- An empty waveform, a clock that is no candidate, pulses without a marker, one marker, two markers. -/
theorem witness_LwsyncOutcome :
    (after (exec .pulses (State.reset.setComplete false))).status.err ≠ .none ∧
    twoMarkersCaptured.status.err = .none ∧ (after (exec (.clksel 48) twoMarkersCaptured)).status.err ≠ .none ∧
    twoMarkersClocked.status.err = .none ∧ NoMarker (withPulses 8 1 [8, 8, 8, 8]) 0 ∧
    LowestMarker twoMarkersClocked 0 0 ∧ LowestMarker twoMarkersClocked (0 + 4) 5 ∧
    (LowestMarker (withPulses 8 1 [24, 16, 24, 8]) 0 0 ∧ NoMarker (withPulses 8 1 [24, 16, 24, 8]) (0 + 4)) := by
  refine ⟨by decide, by decide +kernel, by decide +kernel, by decide +kernel, ?_, twoMarkers_first, twoMarkers_second,
    ⟨by decide, by decide, ?_, fun k _ h => absurd h (Nat.not_lt_zero k)⟩, ?_⟩
  · intro i _ hi
    have e : (withPulses 8 1 [8, 8, 8, 8]).plen.toNat = 4 := rfl
    have : i = 0 := by omega
    subst this
    unfold Match4
    decide
  · unfold Match4
    decide
  · intro i h1 hi
    have e : (withPulses 8 1 [24, 16, 24, 8]).plen.toNat = 4 := rfl
    omega

/-- The synchronised states X50READ begins from: with one marker and with two. -/
def oneMarkerWave : State := withWave (waveOf [24, 16, 24, 8, 8])
def oneMarkerSynced : State := after (exec (.lwsync 0) (x50Cleared oneMarkerWave))
def twoMarkersSynced : State := after (exec (.lwsync 0) (x50Cleared { oneBlockWave with demodIn := [some deadbeef] }))

theorem witness_X50readFollowsItsSync :
    (after (exec (.lwsync 0) (x50Cleared State.reset))).status.err ≠ .none ∧ oneMarkerSynced.status.err = .none ∧
    NoMarker oneMarkerSynced (oneMarkerSynced.m1idx.toNat + 4) := by
  refine ⟨by decide, by decide +kernel, ?_⟩
  intro i h1 h2
  have e1 : oneMarkerSynced.plen.toNat = 5 := by decide +kernel
  have e2 : oneMarkerSynced.m1idx.toNat = 0 := by decide +kernel
  omega

/-- One block of eight samples between two markers; an answer of exactly 45 bits, of 44, of none; no further marker. -/
theorem witness_X50readFirstBlock :
    twoMarkersSynced.status.err = .none ∧ LowestMarker twoMarkersSynced (twoMarkersSynced.m1idx.toNat + 4) 5 ∧
    position twoMarkersSynced (twoMarkersSynced.m1idx.toNat + 3) + twoMarkersSynced.clk.toNat +
      twoMarkersSynced.m1ph.toNat < position twoMarkersSynced 5 ∧
    (∀ c, demodAnswerAt twoMarkersSynced 0 0 c = some deadbeef) ∧ 45 ≤ deadbeef.length ∧
    (deadbeef.take 44 ≠ [] ∧ (deadbeef.take 44).length < 45) ∧
    (∀ c, demodAnswerAt { twoMarkersSynced with demodIn := [none] } 0 0 c = none) ∧
    NoMarker twoMarkersSynced (5 + 4) := by
  have e2 : twoMarkersSynced.m1idx.toNat = 0 := by decide +kernel
  have e3 : twoMarkersSynced.demodIn = [some deadbeef] := by decide +kernel
  refine ⟨by decide +kernel, ?_, by decide +kernel, fun c => ?_, by decide, by decide, fun c => rfl, ?_⟩
  · rw [e2]
    refine ⟨by decide, by decide +kernel, ?_, ?_⟩
    · unfold Match4
      decide +kernel
    · intro k h1 h2
      have : k = 4 := by omega
      subst this
      unfold Match4
      decide +kernel
  · simp [demodAnswerAt, e3]
  · intro i h1 h2
    have e1 : twoMarkersSynced.plen.toNat = 9 := by decide +kernel
    omega

/-- With the phase a marker of LWSYNC has, a window is empty when the next marker follows at once: the fourth pulse is
one sample short of a clock. -/
theorem witness_X50readFirstBlock_empty_window :
    let a := after (exec (.lwsync 8) (x50Cleared (withWave (waveOf [24, 16, 24, 7, 24, 16, 24, 7]))))
    a.status.err = .none ∧ a.m1idx = 0 ∧ position a 4 ≤ position a 3 + a.clk.toNat + a.m1ph.toNat := by decide +kernel

theorem x50_outcome (s : State) (clk : Nat) : exec (.x50read clk) s = .next (after (exec (.x50read clk) s)) := rfl

/-- One decoded block and no further marker. The windows, answers and stops are those of `witness_X50readFirstBlock`. -/
theorem witness_X50readBlocksComeFromTheAnswers :
    twoMarkersSynced.status.err = .none ∧
    (after (exec (.x50read 0) { oneBlockWave with demodIn := [some deadbeef] })).nblk = 1 ∧
    (after (exec (.x50read 0) { oneBlockWave with demodIn := [some deadbeef] })).calls =
      [blockCall twoMarkersSynced 0 5] := by decide +kernel

/-- Two blocks (R111, R112): each has its own window, and WBASE is left at the start of the second. -/
theorem test_x50read_two_blocks :
    let t := after (exec (.x50read 0)
      { withWave (waveOf [24, 16, 24, 8, 8, 24, 16, 24, 12, 8, 24, 16, 24, 8]) with
        demodIn := [some deadbeef, some deadbeef] })
    t.nblk = 2 ∧ t.wbase = 157 ∧ t.pidx = 14 ∧
      t.calls.map (fun c => match c with
        | .demodAsk _ w _ _ _ => (w.lo, w.hi)
        | _ => (0, 0)) = [(73, 81), (157, 165)] := by decide +kernel

theorem witness_IncompleteReadsHaveNoBlock :
    exec (.x50read 0) oneMarkerWave = .next (after (exec (.x50read 0) oneMarkerWave)) ∧
    (after (exec (.x50read 0) oneMarkerWave)).status.complete = false ∧
    (after (exec (.x50read 0) oneMarkerWave)).status.err = .none := ⟨x50_outcome _ _, by decide +kernel, by decide +kernel⟩

theorem witness_X50codeOutcome :
    (withBits (deadbeef.take 44)).blen.toNat < (withBits (deadbeef.take 44)).boff.toNat + 45 ∧
    (withBits deadbeef).boff.toNat + 45 ≤ (withBits deadbeef).blen.toNat := by decide

theorem witness_X05decRefusesBeforeAnyCall :
    15 < 16 ∧ (15 ≤ 15 ∧ State.reset.respValid = false) ∧
    (({ State.reset with respValid := true } : State).respValid = true ∧
      ({ State.reset with respValid := true } : State).wlen.toNat ≤
        ({ State.reset with respValid := true } : State).wbase.toNat) := by decide

theorem response72_valid : ValidRead (seqBit response72) response72.length 0 := by
  refine ⟨⟨by decide, ?_, fun k h => absurd h (Nat.not_lt_zero k)⟩, by decide, rowsPass_of_check (by decide +kernel),
    colsPass_of_check (by decide +kernel)⟩
  unfold PreambleAt
  decide

/-- The answers of V30, to a waveform of three samples. -/
theorem witness_X05decReadSucceedsAtPsk1 :
    let s : State := { responded with clockIn := [none, some ⟨32, by decide⟩], demodIn := [some response72] }
    15 ≤ 15 ∧ s.respValid = true ∧ s.wbase.toNat < s.wlen.toNat ∧
    clockAnswerAt s 0 0 (.estimateFskClock (visible s)) = none ∧
    clockAnswerAt s 1 1 (.estimatePskClock (visible s)) = some ⟨32, by decide⟩ ∧
    demodAnswerAt s 0 2 (.demodPsk (visible s) 32 1 false) = some response72 ∧
    ValidRead (seqBit response72) response72.length 0 :=
  ⟨by decide, rfl, by decide, rfl, rfl, rfl, response72_valid⟩

theorem witness_X05decAcknowledgesAtFsk :
    let s : State := { responded with clockIn := [some ⟨50, by decide⟩], demodIn := [some response72] }
    15 ≤ 15 ∧ s.respValid = true ∧ s.wbase.toNat < s.wlen.toNat ∧
    clockAnswerAt s 0 0 (.estimateFskClock (visible s)) = some ⟨50, by decide⟩ ∧
    demodAnswerAt s 0 1 (.demodFsk (visible s) 50) = some response72 ∧
    FirstPreamble (seqBit response72) response72.length 0 :=
  ⟨by decide, rfl, by decide, rfl, rfl, response72_valid.1⟩

/-- A read that stage 2 wins, as in V30, and a response that no read accepts: stage 1's kind is ParityFailed. -/
theorem witness_X05decEndsAtTheFirstStageThatValidates :
    15 ≤ 15 ∧ responded.respValid = true ∧ responded.wbase.toNat < responded.wlen.toNat ∧
    responded.params.psk2map = .standard ∧ StageValidates response72 true 0 ∧
    StageFails none true .demodulatorFailed ∧ StageFails (some (response72.set 16 true)) true .parityFailed := by
  refine ⟨by decide, rfl, by decide, rfl, ⟨response72_valid.1, fun _ => response72_valid⟩, .inl ⟨.inl rfl, rfl⟩,
    .inr ⟨_, rfl, by decide, .inr ⟨rfl, 0, ⟨by decide, ?_, fun k h => absurd h (Nat.not_lt_zero k)⟩, .inr
      ⟨by decide, fun h => absurd (h.1 1 (by decide)) (by decide +kernel), rfl⟩⟩⟩⟩
  unfold PreambleAt
  decide

/-- V31: stage 2's bits are too short after the preamble, their remapping validates, and stage 3 wins with no call. -/
theorem test_x05dec_remapped :
    let t := after (exec (.x05dec 0 true)
      { responded with
        clockIn := [none, some ⟨32, by decide⟩]
        demodIn := [some (bitsOf 51 0b001100000101000010011000001101110011100000000111111)] })
    t.stage.toWord = 0x0703 ∧ stgerrWord t.stgerr = 0x63 ∧ t.preoff = 0 ∧ t.word = 0x12345678 ∧
      t.calls.length = 3 := by decide +kernel

theorem witness_X05decFailsWhenEveryStageFails :
    let s : State := { responded with clockIn := [none, none, none], demodIn := [none, none, none] }
    0 ≤ 15 ∧ s.respValid = true ∧ s.wbase.toNat < s.wlen.toNat ∧
    clockAnswerAt s 0 0 (.estimateFskClock (visible s)) = none ∧
    clockAnswerAt s 1 1 (.estimatePskClock (visible s)) = none ∧
    clockAnswerAt s 2 2 (.estimatePskClock (visible s)) = none ∧
    demodAnswerAt s 0 3 (.demodAsk .manchester (visible s) 0 false s.cfg.maxErr.toNat) = none ∧
    demodAnswerAt s 1 4 (.demodAsk .biphase (visible s) 0 false s.cfg.maxErr.toNat) = none ∧
    demodAnswerAt s 2 5 (.demodAsk .biphase (visible s) 0 true s.cfg.maxErr.toNat) = none :=
  ⟨by decide, rfl, by decide, rfl, rfl, rfl, rfl, rfl, rfl⟩

theorem witness_X05decRecordsTheCascade :
    let s : State := { responded with clockIn := [none, none, none], demodIn := [none, none, none] }
    exec (.x05dec 0 true) s = .next (after (exec (.x05dec 0 true) s)) ∧ 0 ≤ 15 ∧ s.respValid = true ∧
    s.wbase.toNat < s.wlen.toNat := ⟨rfl, by decide, rfl, by decide⟩

/-- BOFF just above BLEN; no preamble; one bit short of a block; a flipped bit; a valid response. -/
theorem witness_X05testOutcome :
    ({ State.reset with boff := 1 } : State).blen.toNat < ({ State.reset with boff := 1 } : State).boff.toNat ∧
    (∀ o, o < 14 → ¬ PreambleAt (offsetBit (withBits (bitsOf 6 0b101011))) 6 o) ∧
    FirstPreamble (offsetBit (withBits (response72.take 50))) 50 0 ∧ 50 < 0 + 51 ∧
    ¬ BlockPasses (fun i => offsetBit (withBits (response72.set 16 true)) (0 + 6 + i)) ∧
    ValidRead (offsetBit (withBits response72)) 51 0 := by
  refine ⟨by decide, ?_, ⟨by decide, ?_, fun k h => absurd h (Nat.not_lt_zero k)⟩, by decide,
    fun h => absurd (h.1 1 (by decide)) (by decide +kernel),
    ⟨⟨by decide, ?_, fun k h => absurd h (Nat.not_lt_zero k)⟩, by decide, rowsPass_of_check (by decide +kernel),
      colsPass_of_check (by decide +kernel)⟩⟩
  · rintro o _ ⟨h1, h2, -⟩
    have : o = 0 := by omega
    subst this
    exact absurd h2 (by decide)
  · unfold PreambleAt
    decide +kernel
  · unfold PreambleAt
    decide +kernel

theorem witness_Psk2mapOutcome :
    ({ State.reset with boff := 1 } : State).blen.toNat < ({ State.reset with boff := 1 } : State).boff.toNat ∧
    (withBits [true]).boff.toNat ≤ (withBits [true]).blen.toNat ∧
    (withBits [true]).params.psk2map = .standard := by decide

theorem witness_X05infoOutcome : State.reset.params.chipInfo = .standard := by decide

/-- An ID of exactly 2^40 and one below it; a clock outside the set; a WAVE one sample too small and exactly large
enough. -/
theorem witness_E410encOutcome :
    2 ^ 40 ≤ ((0x100 : Word) ++ (0 : Word)).toNat ∧ 20 ∉ [8, 16, 32, 40, 50, 64, 128] ∧
    (((0xFF : Word) ++ (0xFFFFFFFF : Word)).toNat < 2 ^ 40 ∧ 128 ∈ [8, 16, 32, 40, 50, 64, 128]) ∧
    ({ Params.default with wmax := 8191 } : Params).wmax < 64 * 128 ∧
    64 * 128 ≤ ({ Params.default with wmax := 8192 } : Params).wmax ∧
    State.reset.params.pulseShape = .standard ∧
    (∀ w, ({ Params.default with sampleWidth := some 2 } : Params).sampleWidth = some w → 2 ≤ w) := by
  refine ⟨by decide, by decide, by decide, by decide, by decide, rfl, fun w h => ?_⟩
  cases h
  decide

theorem frame40_parity : RowsPass (fun i => offsetBit (withBits frame40) (9 + i)) 11 5 false ∧
    ColsPass (fun i => offsetBit (withBits frame40) (9 + i)) 11 5 false :=
  ⟨rowsPass_of_check (by decide +kernel), colsPass_of_check (by decide +kernel)⟩

/-- An XL report; 63 bits; a cleared header bit; a set stop bit; a flipped column parity; a valid frame. -/
theorem witness_E410decOutcome :
    (1 : Word) ≠ 0 ∧ (withBits frame40).xlhi = 0 ∧
    (withBits (frame40.take 63)).blen.toNat < (withBits (frame40.take 63)).boff.toNat + 64 ∧
    ¬ ((withBits frame40).blen.toNat < (withBits frame40).boff.toNat + 64) ∧
    ¬ (∀ k, k < 9 → offsetBit (withBits (frame40.set 0 false)) k = true) ∧
    offsetBit (withBits (frame40.set 63 true)) 63 ≠ false ∧
    ¬ (RowsPass (fun i => offsetBit (withBits (frame40.set 59 true)) (9 + i)) 11 5 false ∧
      ColsPass (fun i => offsetBit (withBits (frame40.set 59 true)) (9 + i)) 11 5 false) ∧
    (∀ k, k < 9 → offsetBit (withBits frame40) k = true) ∧ offsetBit (withBits frame40) 63 = false ∧
    RowsPass (fun i => offsetBit (withBits frame40) (9 + i)) 11 5 false ∧
    ColsPass (fun i => offsetBit (withBits frame40) (9 + i)) 11 5 false := by
  refine ⟨by decide, rfl, by decide, by decide, fun h => absurd (h 0 (by decide)) (by decide +kernel),
    by decide +kernel, fun h => absurd (h.2 0 (by decide)) (by decide +kernel), by decide +kernel, by decide +kernel,
    frame40_parity.1, frame40_parity.2⟩

theorem witness_E410RoundTrip :
    id40.x[1].toNat * 2 ^ 32 + id40.x[0].toNat < 2 ^ 40 ∧ 128 ∈ candidates ∧ 64 * 128 ≤ id40.params.wmax ∧
    id40.xlhi = 0 := by decide

/-- The last ID below the limit and the limit itself (R160's corner cases). -/
theorem witness_E410wchkOutcome :
    64 ∈ [16, 32, 40, 64] ∧ ((0xFF : Word) ++ (0xFFFFFFFF : Word)).toNat < 0x10000000000 ∧
    50 ∉ [16, 32, 40, 64] ∧ 0x10000000000 ≤ ((0x100 : Word) ++ (0 : Word)).toNat := by decide

end Sys2Proof.Tests
end

section
/-! SUPPORT. The range of SAMPLE_W (00_scope.md section 3, R6). -/
namespace Sys2Proof.Machine
open Sys2Proof.Claims

/-- The model's test of a sample decides the range the statements speak of. -/
theorem sampleFits_iff_inSampleRange (s : State) (v : Int) :
    sampleFits s.params.sampleWidth v = true ↔ InSampleRange s v := by
  unfold InSampleRange
  cases s.params.sampleWidth with
  | none => simp
  | some w => simp [sampleFits_some]

/-- Settles O57: the invariant bounds the samples WAVE lists, and a free one is brought into the range when it is read. -/
theorem everySampleLiesInItsRange : Obligations.EverySampleLiesInItsRange := by
  intro s hinv i
  have hfits : sampleFits s.params.sampleWidth (s.waveAt i) = true := State.waveAt_fits hinv.samples i
  exact (sampleFits_iff_inSampleRange s (s.waveAt i)).mp hfits

end Sys2Proof.Machine
end

section
/-! SUPPORT. What each command may write (10_state.md R13, R15, R30, R36): one relation, closed under composition, that
every command meets. The statements about writers follow from it. -/
namespace Sys2Proof.Machine
open Sys2Proof.Claims

/-- The fields of STATUS that every command's end may write (R172, R173), from `st'`; the others from `st`. -/
def Status.endedAs (st st' : Status) : Status :=
  { st with err := st'.err, pass := st'.pass, errSeen := st'.errSeen }

/-- `s` with the fields that command `i` may write taken from `t`, by the writer columns of R13 and R15. -/
def written (i : Instr) (s t : State) : State :=
  let ended := s.status.endedAs t.status
  let plain := { s with status := ended }
  let withPulses := { plain with
    plen := t.plen, minw := t.minw, skip0 := t.skip0, pulse := t.pulse
    status := { ended with ptrunc := t.status.ptrunc } }
  let withSync := { withPulses with
    clk := t.clk, tol := t.tol, m1idx := t.m1idx, m1ph := t.m1ph, m2idx := t.m2idx, pidx := t.pidx
    status := { ended with ptrunc := t.status.ptrunc, complete := t.status.complete } }
  match i with
  | .nop | .rowpar _ _ _ | .colpar _ _ _ | .blkpar _ _ _ | .e410wchk _ => plain
  | .pulses => withPulses
  | .clksel _ => { plain with clk := t.clk, tol := t.tol }
  | .lwfind => { plain with
      mkidx := t.mkidx, mkph := t.mkph, mkpos := t.mkpos, pidx := t.pidx
      status := { ended with found := t.status.found } }
  | .lwsync _ => withSync
  | .x50read _ => { withSync with
      nblk := t.nblk, blkpf := t.blkpf, blk := t.blk, wbase := t.wbase, blen := t.blen, boff := t.boff, bits := t.bits
      calls := t.calls, demodIn := t.demodIn
      status := { ended with
        ptrunc := t.status.ptrunc, complete := t.status.complete, allPar := t.status.allPar } }
  | .x50code => { plain with word := t.word }
  | .x05dec _ _ => { plain with
      addr := t.addr, stage := t.stage, stgerr := t.stgerr, preoff := t.preoff, word := t.word
      blen := t.blen, boff := t.boff, bits := t.bits, calls := t.calls, demodIn := t.demodIn, clockIn := t.clockIn }
  | .x05test _ => { plain with preoff := t.preoff, word := t.word, blen := t.blen, boff := t.boff, bits := t.bits }
  | .psk2map => { plain with bits := t.bits }
  | .x05info => { plain with
      chiptype := t.chiptype, captype := t.captype, custcode := t.custcode, serial := t.serial }
  | .e410enc _ => { plain with
      wlen := t.wlen, wbase := t.wbase, blen := t.blen, boff := t.boff, bits := t.bits, wave := t.wave }
  | .e410dec => { plain with
      idlo := t.idlo, idhi := t.idhi
      status := { ended with found := t.status.found, idValid := t.status.idValid } }
  | .rst => { t with
      params := s.params, demodIn := s.demodIn, clockIn := s.clockIn, calls := s.calls
      pending := s.pending, pc := s.pc, replies := s.replies }

/-- From `s` to `t` command `i` has written no other field than it may; ERRSEEN stays set (R15), but for RST, and the
record of calls only grows (R36). -/
structure Writes (i : Instr) (s t : State) : Prop where
  only : t = written i s t
  errSeen : i ≠ .rst → s.status.errSeen = true → t.status.errSeen = true
  calls : ∃ cs, t.calls = s.calls ++ cs

variable {i : Instr} {s t u : State}

/-- An update of fields that `i` may write. -/
theorem Writes.of_update (only : t = written i s t) (errSeen : t.status.errSeen = s.status.errSeen)
    (calls : t.calls = s.calls) : Writes i s t :=
  ⟨only, fun _ h => errSeen.trans h, [], by simp [calls]⟩

theorem Writes.refl (i : Instr) (s : State) : Writes i s s :=
  .of_update (by cases i <;> rfl) rfl rfl

theorem Writes.trans (hst : Writes i s t) (htu : Writes i t u) : Writes i s u where
  only := by
    rw [htu.only, hst.only]
    cases i <;> rfl
  errSeen hi h := htu.errSeen hi (hst.errSeen hi h)
  calls := by
    obtain ⟨cs, hcs⟩ := hst.calls
    obtain ⟨ds, hds⟩ := htu.calls
    exact ⟨cs ++ ds, by rw [hds, hcs, List.append_assoc]⟩

theorem Writes.raise (h : Writes i s t) (k : ErrKind) : Writes i s (t.raise k) :=
  h.trans ⟨by cases i <;> rfl, fun _ _ => rfl, [], (List.append_nil _).symm⟩

theorem Writes.done (h : Writes i s t) (p : Bool) : Writes i s (t.done p) :=
  h.trans ⟨by cases i <;> rfl, fun _ => id, [], (List.append_nil _).symm⟩

theorem Writes.conclude {r : Progress} (h : Writes i s r.1) (v : State → Bool) : Writes i s (r.conclude v) := by
  rcases r.conclude_cases v with ⟨k, _, e⟩ | ⟨_, e⟩
  · rw [e]; exact h.raise k
  · rw [e]; exact h.done _

theorem Writes.andThen {r : Progress} {f : State → Progress} (h : Writes i s r.1) (hf : ∀ t, Writes i t (f t).1) :
    Writes i s (r.andThen f).1 := by
  rcases r.andThen_cases f with ⟨k, _, e⟩ | ⟨_, e⟩
  · rw [e]; exact h
  · rw [e]; exact h.trans (hf r.1)

/-! ### Clock and markers -/

theorem Writes.lwsync_of_pulses (h : Writes .pulses s t) (clk : Nat) : Writes (.lwsync clk) s t :=
  ⟨by rw [h.only]; rfl, fun _ => h.errSeen (by decide), h.calls⟩

theorem Writes.lwsync_of_clksel {c : Nat} (h : Writes (.clksel c) s t) (clk : Nat) : Writes (.lwsync clk) s t :=
  ⟨by rw [h.only]; rfl, fun _ => h.errSeen nofun, h.calls⟩

theorem Writes.x50read_of_lwsync {c : Nat} (h : Writes (.lwsync c) s t) (clk : Nat) : Writes (.x50read clk) s t :=
  ⟨by rw [h.only]; rfl, fun _ => h.errSeen nofun, h.calls⟩

theorem State.capture_writes (s : State) : Writes .pulses s s.capture.1 := by
  unfold State.capture
  simp only
  split
  · exact .of_update rfl rfl rfl
  split
  · exact .of_update rfl rfl rfl
  · exact .of_update rfl rfl rfl

theorem State.chooseClock_writes (s : State) (clk : Nat) : Writes (.clksel clk) s (s.chooseClock clk).1 := by
  unfold State.chooseClock
  simp only
  split
  · exact .of_update rfl rfl rfl
  split
  · split
    · exact .of_update rfl rfl rfl
    · exact .of_update rfl rfl rfl
  split
  · exact .of_update rfl rfl rfl
  split
  · exact .of_update rfl rfl rfl
  · exact .of_update rfl rfl rfl

theorem State.syncMarkers_writes (s : State) (clk : Nat) : Writes (.lwsync clk) s s.syncMarkers.1 := by
  unfold State.syncMarkers
  split
  · exact .refl _ s
  simp only
  split
  · exact .of_update rfl rfl rfl
  · exact .of_update rfl rfl rfl

theorem State.sync_writes (s : State) (clk : Nat) : Writes (.lwsync clk) s (s.sync clk).1 := by
  have hclear : Writes (.lwsync clk) s (s.setComplete false) := .of_update rfl rfl rfl
  exact ((hclear.trans ((State.capture_writes _).lwsync_of_pulses clk)).andThen
    fun t => (t.chooseClock_writes clk).lwsync_of_clksel clk).andThen fun t => t.syncMarkers_writes clk

theorem execLwfind_writes (h : execLwfind s = .next t) : Writes .lwfind s t := by
  have hclear : Writes .lwfind s (s.setFound false) := .of_update rfl rfl rfl
  unfold execLwfind at h
  split at h
  · cases h; exact hclear.raise _
  split at h
  · cases h; exact hclear.raise _
  · cases h; refine Writes.done ?_ true; exact .of_update rfl rfl rfl

/-! ### Calls and blocks -/

/-- What a demodulator call leaves. -/
theorem State.eq_of_askDemod {c : OracleCall} {r : Option (List Bool)} (h : s.askDemod c = (r, t)) :
    t = { s with calls := s.calls ++ [c], demodIn := s.demodIn.tail } := by
  rw [← State.askDemod_frame, h]

/-- What an estimator call leaves. -/
theorem State.eq_of_askClock {c : OracleCall} {r : Option PosClock} (h : s.askClock c = (r, t)) :
    t = { s with calls := s.calls ++ [c], clockIn := s.clockIn.tail } := by
  rw [← State.askClock_frame, h]

theorem State.readBlocks_writes (clk n b prev ph cur : Nat) (s : State) :
    Writes (.x50read clk) s (State.readBlocks n b prev ph cur s).1 := by
  induction n generalizing b prev ph cur s with
  | zero => exact .of_update rfl rfl rfl
  | succ n ih =>
    unfold State.readBlocks
    split
    · exact .of_update rfl rfl rfl
    simp only
    split
    · exact .refl _ s
    have hcall : ∀ {c r u}, State.askDemod { s with wbase := toReg (s.dataStart prev ph) } c = (r, u) →
        Writes (.x50read clk) s u := fun he => by
      rw [State.eq_of_askDemod he]
      exact ⟨rfl, fun _ => id, [_], rfl⟩
    split
    · next he => exact hcall he
    next he =>
      split
      · exact hcall he
      split
      · exact hcall he
      · refine ((hcall he).trans ?_).trans (ih _ _ _ _ _)
        exact .of_update rfl rfl rfl

theorem State.readAll_writes (s : State) (clk : Nat) : Writes (.x50read clk) s (s.readAll clk).1 := by
  have hclear : Writes (.x50read clk) s s.clearBlocks := .of_update rfl rfl rfl
  exact (hclear.trans ((State.sync_writes _ clk).x50read_of_lwsync clk)).andThen
    fun t => t.readBlocks_writes clk _ _ _ _ _

theorem execX50code_writes (h : execX50code s = .next t) : Writes .x50code s t := by
  unfold execX50code at h
  split at h
  · cases h; exact (Writes.refl _ s).raise _
  · cases h; refine Writes.done ?_ true; exact .of_update rfl rfl rfl

/-! ### The cascade -/

section
variable (addr : Nat) (readCmd : Bool)

theorem State.askDemod_writes {c : OracleCall} {r : Option (List Bool)} (h : s.askDemod c = (r, t)) :
    Writes (.x05dec addr readCmd) s t := by
  rw [State.eq_of_askDemod h]
  exact ⟨rfl, fun _ => id, [_], rfl⟩

theorem State.askClock_writes {c : OracleCall} {r : Option PosClock} (h : s.askClock c = (r, t)) :
    Writes (.x05dec addr readCmd) s t := by
  rw [State.eq_of_askClock h]
  exact ⟨rfl, fun _ => id, [_], rfl⟩

theorem State.estimateThenDemod_writes {estimate : OracleCall} {demod : Nat → OracleCall} {r : Option (List Bool)}
    (h : s.estimateThenDemod estimate demod = (r, t)) : Writes (.x05dec addr readCmd) s t := by
  unfold State.estimateThenDemod at h
  split at h
  · next he => cases h; exact State.askClock_writes addr readCmd he
  · next he => exact (State.askClock_writes addr readCmd he).trans (State.askDemod_writes addr readCmd h)

theorem State.stageBits_writes {sch : Scheme} {w : Window} {parent r : Option (List Bool)}
    (h : s.stageBits sch w parent = (r, t)) : Writes (.x05dec addr readCmd) s t := by
  cases sch with
  | fsk | psk1 | psk1Inverted =>
    simp only [State.stageBits] at h
    exact State.estimateThenDemod_writes addr readCmd h
  | psk2 | psk2Inverted => cases h; exact .refl _ s
  | askManchester | askBiphase | askDiphase => exact State.askDemod_writes addr readCmd h

theorem State.stageWins_writes (s : State) (sch : Scheme) (bs : List Bool) (o : Nat) (payload : Option (List Bool)) :
    Writes (.x05dec addr readCmd) s (s.stageWins sch bs o payload) := by
  cases payload with
  | some p => exact .of_update rfl rfl rfl
  | none => exact .of_update rfl rfl rfl

theorem State.cascade_writes (w : Window) (schemes : List Scheme) (parent : Option (List Bool)) (s : State) :
    Writes (.x05dec addr readCmd) s (State.cascade w readCmd schemes parent s).1 := by
  induction schemes generalizing parent s with
  | nil => exact .refl _ s
  | cons sch rest ih =>
    have htried : Writes (.x05dec addr readCmd) s (s.markTried sch) := .of_update rfl rfl rfl
    have hnext : ∀ (u : State) (k : ErrKind) (parent : Option (List Bool)), Writes (.x05dec addr readCmd) u
        (State.cascade w readCmd rest parent (u.stageError sch k)).1 := fun u k parent => by
      refine Writes.trans ?_ (ih _ _)
      exact .of_update rfl rfl rfl
    unfold State.cascade
    simp only
    split
    · next he => exact (htried.trans (State.stageBits_writes addr readCmd he)).trans (hnext _ _ _)
    next he =>
      have hbits := htried.trans (State.stageBits_writes addr readCmd he)
      split
      · exact hbits.trans (hnext _ _ _)
      split
      · exact hbits.trans (hnext _ _ _)
      · exact hbits.trans (State.stageWins_writes addr readCmd _ _ _ _ _)

theorem State.decode05_writes (s : State) : Writes (.x05dec addr readCmd) s (s.decode05 addr readCmd).1 := by
  unfold State.decode05
  simp only
  split
  · exact .of_update rfl rfl rfl
  split
  · exact .of_update rfl rfl rfl
  split
  · exact .of_update rfl rfl rfl
  · refine Writes.trans ?_ (State.cascade_writes addr readCmd _ _ _ _)
    exact .of_update rfl rfl rfl

end

theorem execX05test_writes {readCmd : Bool} (h : execX05test readCmd s = .next t) :
    Writes (.x05test readCmd) s t := by
  unfold execX05test at h
  split at h
  · cases h; exact (Writes.refl _ s).raise _
  split at h
  · cases h; exact (Writes.refl _ s).raise _
  · cases h; refine Writes.done ?_ true; exact .of_update rfl rfl rfl
  · cases h; refine Writes.done ?_ true; exact .of_update rfl rfl rfl

theorem execPsk2map_writes (h : execPsk2map s = .next t) : Writes .psk2map s t := by
  unfold execPsk2map at h
  split at h
  · cases h; exact (Writes.refl _ s).raise _
  · cases h; refine Writes.done ?_ true; exact .of_update rfl rfl rfl

/-! ### The other commands -/

theorem execE410enc_writes {clk : Nat} (h : execE410enc clk s = .next t) : Writes (.e410enc clk) s t := by
  unfold execE410enc at h
  split at h
  · cases h; exact (Writes.refl _ s).raise _
  split at h
  · cases h; exact (Writes.refl _ s).raise _
  split at h
  · cases h; exact (Writes.refl _ s).raise _
  · cases h; refine Writes.done ?_ true; exact .of_update rfl rfl rfl

theorem execE410dec_writes (h : execE410dec s = .next t) : Writes .e410dec s t := by
  have hclear : Writes .e410dec s (s.setReport false false) := .of_update rfl rfl rfl
  unfold execE410dec at h
  simp only at h
  split at h
  · cases h; refine Writes.done ?_ true; exact .of_update rfl rfl rfl
  split at h
  · cases h; exact hclear.raise _
  split at h
  · cases h; exact hclear.raise _
  split at h
  · cases h; exact hclear.raise _
  split at h
  · cases h; exact hclear.raise _
  split at h
  · cases h; exact hclear.raise _
  · cases h; refine Writes.done ?_ true; exact .of_update rfl rfl rfl

theorem execE410wchk_writes {clk : Nat} (h : execE410wchk clk s = .next t) : Writes (.e410wchk clk) s t := by
  unfold execE410wchk at h
  split at h
  · cases h; exact (Writes.refl _ s).raise _
  split at h
  · cases h; exact (Writes.refl _ s).raise _
  · cases h; exact (Writes.refl _ s).done _

theorem State.parityCommand_writes (i : Instr) (s : State) (rows cols : Nat) (v : Verdict) :
    Writes i s (s.parityCommand rows cols v) := by
  unfold State.parityCommand
  split
  · exact (Writes.refl _ s).raise _
  split
  · exact (Writes.refl _ s).raise _
  cases v with
  | invalid => exact (Writes.refl _ s).raise _
  | fails => exact (Writes.refl _ s).raise _
  | holds => exact (Writes.refl _ s).done _

/-- A command writes only what the writer columns of R13 and R15 let it write. -/
theorem exec_writes (h : exec i s = .next t) : Writes i s t := by
  cases i with
  | nop => cases h; exact (Writes.refl _ s).done true
  | rowpar | colpar | blkpar => cases h; exact s.parityCommand_writes _ _ _ _
  | pulses => cases h; exact s.capture_writes.conclude _
  | clksel clk => cases h; exact (s.chooseClock_writes clk).conclude _
  | lwfind => exact execLwfind_writes h
  | lwsync clk => cases h; exact (s.sync_writes clk).conclude _
  | x50read clk => cases h; exact (s.readAll_writes clk).conclude _
  | x50code => exact execX50code_writes h
  | x05dec addr readCmd => cases h; exact (s.decode05_writes addr readCmd).conclude _
  | x05test readCmd => exact execX05test_writes h
  | psk2map => exact execPsk2map_writes h
  | x05info => cases h; refine Writes.done ?_ true; exact .of_update rfl rfl rfl
  | e410enc clk => exact execE410enc_writes h
  | e410dec => exact execE410dec_writes h
  | e410wchk clk => exact execE410wchk_writes h
  | rst => cases h; exact ⟨rfl, fun hne => absurd rfl hne, [], (List.append_nil _).symm⟩

/-- Settles O19: the fields that `written` keeps for a command are those whose register does not list it. -/
theorem onlyTheListedCommandsWriteARegister : Obligations.OnlyTheListedCommandsWriteARegister := by
  intro i s t h hrst
  rw [(exec_writes h).only]
  cases i <;> simp [written, op] at hrst ⊢

/-- Settles O21: the same for the record of calls, the answers and what is the host's. -/
theorem onlyDecodersCallCollaborators : Obligations.OnlyDecodersCallCollaborators := by
  intro i s t h
  obtain ⟨only, -, calls⟩ := exec_writes h
  refine ⟨?_, ?_, ?_, ?_, calls, ?_, ?_⟩
  all_goals
    rw [only]
    cases i <;> simp [written, op]

end Sys2Proof.Machine
end

section
/-! SUPPORT. Every event of the host's list completes (10_state.md R11; 60_exceptions.md R172, R173). -/
namespace Sys2Proof.Machine

/-- Every command ends in a next state (R172, R173). -/
theorem exec_completes (i : Instr) (s : State) : ∃ t, exec i s = .next t := by
  cases i with
  | nop | rowpar | colpar | blkpar | pulses | clksel | lwsync | x50read | x05dec | x05info | rst => exact ⟨_, rfl⟩
  | lwfind | x50code | x05test | psk2map | e410enc | e410dec | e410wchk =>
    simp only [exec, execLwfind, execX50code, execX05test, execPsk2map, execE410enc, execE410dec, execE410wchk]
    repeat' split
    all_goals exact ⟨_, rfl⟩

theorem runTransaction_completes (tr : Transaction) (s : State) : ∃ t, runTransaction tr s = .next t := by
  unfold runTransaction issueCommand
  split
  · split
    · exact exec_completes _ _
    · exact ⟨_, rfl⟩
  · exact ⟨_, rfl⟩

/-- With legal parameters every step completes. -/
theorem step_completes {s : State} (h : s.params.wf) : ∃ t, step s = .next t := by
  unfold step runNext runEvent
  rw [if_pos h]
  split
  · exact ⟨_, rfl⟩
  split
  · exact runTransaction_completes _ _
  · exact ⟨_, rfl⟩

end Sys2Proof.Machine
end

section
/-! SUPPORT. The invariant State.Inv: the operations that several commands share keep it (10_state.md R13, R15, R20 to
R25; 20_memory.md R41). -/
namespace Sys2Proof.Machine

theorem toNat_toReg_of_lt {n : Nat} (h : n < 2 ^ 32) : (toReg n).toNat = n :=
  (BitVec.toNat_ofNat n 32).trans (Nat.mod_eq_of_lt h)

theorem toNat_toReg_le (n : Nat) : (toReg n).toNat ≤ n :=
  (BitVec.toNat_ofNat n 32).trans_le (Nat.mod_le n (2 ^ 32))

/-- The recorded pulses are a matter of the fields named here alone. -/
theorem State.PulsesOk.of_eq {s t : State} (h : s.PulsesOk) (pulse : t.pulse = s.pulse) (epoch : t.epoch = s.epoch)
    (plen : t.plen = s.plen) (minw : t.minw = s.minw) (skip0 : t.skip0 = s.skip0)
    (params : t.params = s.params) : t.PulsesOk := by
  have hat : t.pulseAt = s.pulseAt := by funext i; simp [State.pulseAt, pulse, epoch]
  have hpos : t.pos = s.pos := by funext k; simp [State.pos, State.pulseRange, pulse, epoch, skip0]
  obtain ⟨recorded, least, none_recorded, inside⟩ := h
  constructor <;> simpa only [pulse, plen, minw, params, hat, hpos]

/-! ### Ending a command, reset, the host's record -/

theorem State.Inv.raise {s : State} (h : s.Inv) (k : ErrKind) : (s.raise k).Inv :=
  { h with
    pulses := h.pulses.of_eq rfl rfl rfl rfl rfl rfl
    errorSeen := fun _ => ⟨rfl, rfl⟩ }

theorem State.Inv.done {s : State} (h : s.Inv) (p : Bool) : (s.done p).Inv :=
  { h with
    pulses := h.pulses.of_eq rfl rfl rfl rfl rfl rfl
    errorSeen := fun e => absurd rfl e }

theorem State.Inv.conclude {r : Progress} (h : r.1.Inv) (v : State → Bool) : (r.conclude v).Inv := by
  rcases r.conclude_cases v with ⟨k, _, e⟩ | ⟨_, e⟩
  · rw [e]; exact h.raise k
  · rw [e]; exact h.done _

theorem State.Inv.andThen {r : Progress} {f : State → Progress} (h : r.1.Inv) (hf : ∀ t, t.Inv → (f t).1.Inv) :
    (r.andThen f).1.Inv := by
  rcases r.andThen_cases f with ⟨k, _, e⟩ | ⟨_, e⟩
  · rw [e]; exact h
  · rw [e]; exact hf r.1 h

theorem State.Inv.answered {s : State} (h : s.Inv) (r : Reply) : (s.answered r).Inv :=
  { h with pulses := h.pulses.of_eq rfl rfl rfl rfl rfl rfl }

theorem State.Inv.withPending {s : State} (h : s.Inv) (rest : List HostEvent) : { s with pending := rest }.Inv :=
  { h with pulses := h.pulses.of_eq rfl rfl rfl rfl rfl rfl }

/-- R191's values meet every range, with whatever parameters R6 allows. -/
theorem State.resetBlock_inv {s : State} (h : s.params.wf) : s.resetBlock.Inv where
  params := h
  wave := Memory.Fits.nil _
  pulse := Memory.Fits.nil _
  bits := Memory.Fits.nil _
  samples := by intro c hc; cases hc
  wlen := Nat.zero_le _
  blen := Nat.zero_le _
  plen := Nat.zero_le _
  pulses := ⟨fun i hi => absurd hi (Nat.not_lt_zero i), fun hne => absurd rfl hne, fun _ => rfl, Nat.zero_le _⟩
  clock := .inl rfl
  tolerance := Nat.zero_le _
  blocks := Nat.zero_le _
  blockFlags := by intro b hb; simp [State.resetBlock, State.reset] at hb
  stageWon := Nat.zero_le _
  preambleOffset := Nat.zero_lt_succ 13
  errorSeen := fun hne => absurd rfl hne

/-! ### Stores and calls -/

theorem State.Inv.writeWave {s : State} (h : s.Inv) {i : Nat} {vs : List Int} (hcap : i + vs.length ≤ s.params.wmax)
    (hfit : ∀ v ∈ vs, sampleFits s.params.sampleWidth v = true) : (s.writeWave i vs).Inv :=
  { h with
    wave := h.wave.write i vs hcap
    samples := fun c hc => (Memory.mem_write hc).elim (h.samples c) (hfit c.2)
    pulses := h.pulses.of_eq rfl rfl rfl rfl rfl rfl }

theorem State.Inv.writeBits {s : State} (h : s.Inv) {i : Nat} {vs : List Bool} (hcap : i + vs.length ≤ s.params.bmax) :
    (s.writeBits i vs).Inv :=
  { h with
    bits := h.bits.write i vs hcap
    pulses := h.pulses.of_eq rfl rfl rfl rfl rfl rfl }

/-- The visible part of BITS may be any that BITS can hold. -/
theorem State.Inv.withBitsBounds {s : State} (h : s.Inv) {n : Nat} (o : Word) (hn : n ≤ s.params.bmax) :
    { s with blen := toReg n, boff := o }.Inv :=
  { h with
    blen := (toNat_toReg_le n).trans hn
    pulses := h.pulses.of_eq rfl rfl rfl rfl rfl rfl }

theorem State.Inv.askDemod {s t : State} (h : s.Inv) {c : OracleCall} {r : Option (List Bool)}
    (he : s.askDemod c = (r, t)) : t.Inv := by
  rw [State.eq_of_askDemod he]
  exact { h with pulses := h.pulses.of_eq rfl rfl rfl rfl rfl rfl }

theorem State.Inv.askClock {s t : State} (h : s.Inv) {c : OracleCall} {r : Option PosClock}
    (he : s.askClock c = (r, t)) : t.Inv := by
  rw [State.eq_of_askClock he]
  exact { h with pulses := h.pulses.of_eq rfl rfl rfl rfl rfl rfl }

theorem State.Inv.setFound {s : State} (h : s.Inv) (v : Bool) : (s.setFound v).Inv :=
  { h with pulses := h.pulses.of_eq rfl rfl rfl rfl rfl rfl }

theorem State.Inv.setComplete {s : State} (h : s.Inv) (v : Bool) : (s.setComplete v).Inv :=
  { h with pulses := h.pulses.of_eq rfl rfl rfl rfl rfl rfl }

theorem State.Inv.setReport {s : State} (h : s.Inv) (f v : Bool) : (s.setReport f v).Inv :=
  { h with pulses := h.pulses.of_eq rfl rfl rfl rfl rfl rfl }

end Sys2Proof.Machine
end

section
/-! SUPPORT. What PULSES records (41_clock_window.md R91, R92): every width is at least 2, the pulses end inside the
waveform, and MINW is the least of them. -/
namespace Sys2Proof.Machine
open Sys2Proof.Claims

/-- `pos(k)` is SKIP0 and the widths of the first `k` pulses (R23). -/
theorem State.pos_eq_position (s : State) (k : Nat) : s.pos k = position s k := by
  have hfold : ∀ (ws : List Word) (a : Nat),
      ws.foldl (fun acc w => acc + w.toNat) a = a + (ws.map BitVec.toNat).sum := by
    intro ws
    induction ws with
    | nil => intro a; rfl
    | cons w ws ih => intro a; simp [ih, Nat.add_assoc]
  have hrange : s.pulseRange 0 k = (List.range k).map s.pulseAt := by
    rw [State.pulseRange_eq_map, Nat.sub_zero, List.range_eq_range']
  rw [State.pos, hfold, hrange, List.map_map]
  rfl

/-! ### The scan for the next low sample -/

theorem skipWhile_length (p : Int → Bool) (i : Nat) (ws : List Int) :
    (skipWhile p i ws).1 + (skipWhile p i ws).2.length = i + ws.length := by
  induction ws generalizing i with
  | nil => rfl
  | cons w ws ih =>
    by_cases hp : p w
    · simp only [skipWhile, hp, if_true, ih, List.length_cons]; omega
    · simp [skipWhile, hp]

theorem le_skipWhile (p : Int → Bool) (i : Nat) (ws : List Int) : i ≤ (skipWhile p i ws).1 := by
  induction ws generalizing i with
  | nil => exact le_rfl
  | cons w ws ih =>
    by_cases hp : p w
    · simpa only [skipWhile, hp, if_true] using (Nat.le_succ i).trans (ih (i + 1))
    · simp [skipWhile, hp]

/-- The scan passes a first sample that it has to skip. -/
theorem lt_skipWhile {p : Int → Bool} {ws : List Int} {w : Int} (h : ws.head? = some w) (hp : p w = true) (i : Nat) :
    i < (skipWhile p i ws).1 := by
  obtain ⟨rest, rfl⟩ := List.head?_eq_some_iff.mp h
  simpa only [skipWhile, hp, if_true] using Nat.lt_of_succ_le (le_skipWhile p (i + 1) rest)

/-- The scan stops at a sample it does not skip. -/
theorem skipWhile_head {p : Int → Bool} {i : Nat} {ws : List Int} {w : Int}
    (h : (skipWhile p i ws).2.head? = some w) : p w = false := by
  induction ws generalizing i with
  | nil => cases h
  | cons v ws ih =>
    by_cases hp : p v
    · simp only [skipWhile, hp, if_true] at h
      exact ih h
    · have hvw : v = w := by simpa [skipWhile, hp] using h
      simpa [← hvw] using hp

theorem nextLow_length (hi lo : Int) (i : Nat) (ws : List Int) :
    (nextLow hi lo i ws).1 + (nextLow hi lo i ws).2.length = i + ws.length := by
  simp only [nextLow, skipWhile_length]

/-- The scan stops at a low sample. -/
theorem nextLow_head {hi lo : Int} {i : Nat} {ws : List Int} {w : Int}
    (h : (nextLow hi lo i ws).2.head? = some w) : w ≤ lo := by
  simpa using skipWhile_head h

/-- From a low sample, the next low sample after a high one is at least 2 samples on (R92). -/
theorem add_two_le_nextLow {hi lo : Int} (hlt : lo < hi) {i : Nat} {ws : List Int} {w v : Int}
    (hw : ws.head? = some w) (hlow : w ≤ lo) (hv : (nextLow hi lo i ws).2.head? = some v) :
    i + 2 ≤ (nextLow hi lo i ws).1 := by
  have hfirst : i < (skipWhile (fun w => w < hi) i ws).1 := lt_skipWhile hw (by simpa using hlow.trans_lt hlt) i
  cases hhigh : (skipWhile (fun w => w < hi) i ws).2.head? with
  | none =>
    have hnil := List.head?_eq_none_iff.mp hhigh
    simp [nextLow, hnil, skipWhile] at hv
  | some x =>
    have hx : hi ≤ x := by simpa using skipWhile_head hhigh
    have hsecond := lt_skipWhile (p := fun w => lo < w) hhigh (by simpa using hlt.trans_le hx)
      (skipWhile (fun w => w < hi) i ws).1
    exact Nat.succ_le_of_lt (lt_of_le_of_lt hfirst hsecond)

/-! ### The capture loop -/

/-- Widths that a capture from sample `first` on may record: 2 or more each, no more than `pmax` of them, ending at
sample `last` or before it. -/
structure CapturedWidths (pmax first last : Nat) (widths : List Nat) : Prop where
  wide : ∀ w ∈ widths, 2 ≤ w
  count : widths.length ≤ pmax
  inside : first + widths.sum ≤ last

theorem captureLoop_widths {hi lo : Int} (hlt : lo < hi) {pmax first last : Nat} (fuel i : Nat) (ws : List Int)
    (widths : List Nat) (hi' : first + widths.sum = i) (hlen : i + ws.length = last)
    (hlow : ∀ w, ws.head? = some w → w ≤ lo) (h : CapturedWidths pmax first last widths) :
    CapturedWidths pmax first last (captureLoop hi lo pmax fuel i ws widths).1 := by
  induction fuel generalizing i ws widths with
  | zero => exact h
  | succ fuel ih =>
    cases ws with
    | nil => exact h
    | cons w ws =>
      have hq := nextLow_length hi lo i (w :: ws)
      cases hrest : (nextLow hi lo i (w :: ws)).2 with
      | nil => simpa [captureLoop, hrest] using h
      | cons v rest =>
        have hwide : i + 2 ≤ (nextLow hi lo i (w :: ws)).1 :=
          add_two_le_nextLow hlt rfl (hlow w rfl) (by rw [hrest]; rfl)
        by_cases hfull : widths.length = pmax
        · simpa [captureLoop, hrest, hfull] using h
        · have hcount : widths.length + 1 ≤ pmax := by have := h.count; omega
          simp only [captureLoop, hrest, if_neg hfull]
          rw [hrest] at hq
          refine ih _ _ _ (by simp; omega) (by omega) (fun x hx => nextLow_head (by rw [hrest]; exact hx)) ?_
          refine ⟨?_, by simpa using hcount, by simp; omega⟩
          intro x hx
          rcases List.mem_append.mp hx with hx | hx
          · exact h.wide x hx
          · rw [List.mem_singleton.mp hx]; omega

/-- MINW as the loop tracks it is the least width. -/
theorem trackMin_eq_min? {widths : List Nat} (hpos : ∀ w ∈ widths, 0 < w) (hne : widths ≠ []) :
    widths.min? = some (trackMin widths) := by
  have hfold : ∀ (ws : List Nat) (m : Nat), 0 < m → (∀ w ∈ ws, 0 < w) →
      ws.foldl (fun m w => if m = 0 ∨ w < m then w else m) m = ws.foldl min m := by
    intro ws
    induction ws with
    | nil => intro m _ _; rfl
    | cons w ws ih =>
      intro m hm hws
      obtain ⟨hw, hws⟩ := List.forall_mem_cons.mp hws
      have hmin : (if m = 0 ∨ w < m then w else m) = min m w := by split <;> omega
      rw [List.foldl_cons, List.foldl_cons, hmin]
      exact ih _ (lt_min hm hw) hws
  cases widths with
  | nil => exact absurd rfl hne
  | cons w ws =>
    obtain ⟨hw, hws⟩ := List.forall_mem_cons.mp hpos
    rw [List.min?_cons', trackMin, List.foldl_cons, if_pos (Or.inl rfl), hfold ws w hw hws]

/-! ### PULSES -/

/-- What PULSES leaves when it has recorded `widths` from sample `first` on (R92). -/
def State.withPulses (s : State) (first : Nat) (widths : List Nat) (full : Bool) : State :=
  ({ s with
      skip0 := toReg first
      plen := toReg widths.length
      minw := toReg (trackMin widths)
      status := { s.status with ptrunc := full } }).writePulse 0 (widths.map toReg)

theorem State.Inv.clearCapture {s : State} (h : s.Inv) : s.clearCapture.Inv :=
  { h with
    plen := Nat.zero_le _
    pulses := ⟨fun i hi => absurd hi (Nat.not_lt_zero i), fun hne => absurd rfl hne, fun _ => rfl, Nat.zero_le _⟩ }

theorem State.read?_withPulses (s : State) (first : Nat) {widths : List Nat} (full : Bool) {i : Nat}
    (hi : i < widths.length) :
    Memory.read? (s.withPulses first widths full).pulse i = some (toReg widths[i]) := by
  have hread := Memory.read?_write_inside s.pulse 0 (widths.map toReg) i (by simpa using hi)
  simpa [State.withPulses, hi] using hread

theorem State.width_withPulses (s : State) (first : Nat) {widths : List Nat} (full : Bool) {i : Nat}
    (hi : i < widths.length) (hfits : widths[i] < 2 ^ 32) :
    width (s.withPulses first widths full) i = widths[i] := by
  simp [width, State.pulseAt, State.read?_withPulses s first full hi, toNat_toReg_of_lt hfits]

/-- The pulses recorded lie one after another from `first` on. -/
theorem State.pos_withPulses (s : State) {first : Nat} {widths : List Nat} (full : Bool) (hfirst : first < 2 ^ 32)
    (hfits : ∀ w ∈ widths, w < 2 ^ 32) :
    (s.withPulses first widths full).pos widths.length = first + widths.sum := by
  have hskip : (s.withPulses first widths full).skip0.toNat = first := toNat_toReg_of_lt hfirst
  have hwidths : (List.range widths.length).map (width (s.withPulses first widths full)) = widths := by
    refine List.ext_getElem (by simp) fun i _ hi => ?_
    simpa using State.width_withPulses s first full hi (hfits _ (List.getElem_mem hi))
  rw [State.pos_eq_position, position, hskip, hwidths]

theorem State.PulsesOk.withPulses {s : State} (hwmax : s.params.wmax < 2 ^ 32) {pmax first last : Nat}
    {widths : List Nat} (full : Bool) (hw : CapturedWidths pmax first last widths) (hlast : last ≤ s.params.wmax) :
    (s.withPulses first widths full).PulsesOk := by
  obtain ⟨hwide, -, hinside⟩ := hw
  have hfits : ∀ w ∈ widths, w < 2 ^ 32 := fun w hw => by
    have hle : w ≤ widths.sum := List.single_le_sum (by simp) w hw
    omega
  have hplen : (s.withPulses first widths full).plen.toNat = widths.length := by
    have hle : widths.length ≤ widths.sum := by
      simpa using List.card_nsmul_le_sum widths 1 (fun w hw => one_le_two.trans (hwide w hw))
    exact toNat_toReg_of_lt (by omega)
  have hmin : widths ≠ [] → trackMin widths ∈ widths ∧ ∀ w ∈ widths, trackMin widths ≤ w := fun hne =>
    List.min?_eq_some_iff.mp (trackMin_eq_min? (fun w hw => Nat.zero_lt_two.trans_le (hwide w hw)) hne)
  constructor
  case recorded =>
    intro i hi
    rw [hplen] at hi
    have hmem := List.getElem_mem hi
    have hle := (hmin (List.ne_nil_of_mem hmem)).2 _ hmem
    refine ⟨_, s.read?_withPulses first full hi, ?_⟩
    rw [toNat_toReg_of_lt (hfits _ hmem)]
    exact ⟨hwide _ hmem, (toNat_toReg_le _).trans hle⟩
  case least =>
    intro hne
    rw [hplen] at hne
    obtain ⟨i, hi, he⟩ := List.mem_iff_getElem.mp (hmin (fun h => hne (by simp [h]))).1
    refine ⟨i, by rwa [hplen], ?_⟩
    rw [State.pulseAt, s.read?_withPulses first full hi, he]
    rfl
  case none_recorded =>
    intro h0
    rw [hplen] at h0
    rw [List.eq_nil_of_length_eq_zero h0]
    rfl
  case inside =>
    rw [hplen, s.pos_withPulses full (by omega) hfits]
    exact hinside.trans hlast

theorem State.Inv.withPulses {s : State} (h : s.Inv) {first last : Nat} {widths : List Nat} (full : Bool)
    (hw : CapturedWidths s.params.pmax first last widths) (hlast : last ≤ s.params.wmax) :
    (s.withPulses first widths full).Inv :=
  { h with
    plen := (toNat_toReg_le _).trans hw.count
    pulse := h.pulse.write 0 _ (by simpa using hw.count)
    pulses := State.PulsesOk.withPulses h.params.1.2 full hw hlast }

/-- SKIP0 stands at WLEN when the thresholds leave no pulse (R92). -/
theorem State.Inv.withSkip {s : State} (h : s.Inv) : { s.clearCapture with skip0 := s.wlen }.Inv :=
  { h.clearCapture with
    pulses := ⟨fun i hi => absurd hi (Nat.not_lt_zero i), fun hne => absurd rfl hne, fun _ => rfl, h.wlen⟩ }

theorem State.Inv.capture {s : State} (h : s.Inv) : s.capture.1.Inv := by
  cases hwave : s.visibleWave with
  | nil => simpa [State.capture, hwave] using h.clearCapture
  | cons w ws =>
    have hlen : (w :: ws).length = s.wlen.toNat - s.wbase.toNat := by
      rw [← hwave, State.visibleWave, State.length_waveRange]
    have hend : s.wbase.toNat + (w :: ws).length = s.wlen.toNat := by
      rw [List.length_cons] at hlen ⊢; omega
    simp only [State.capture, hwave]
    split
    · exact h.withSkip
    · next hlt =>
      have hfirst := nextLow_length (s.threshHi (ws.foldl max w) (ws.foldl min w))
        (s.threshLo (ws.foldl max w) (ws.foldl min w)) s.wbase.toNat (w :: ws)
      exact h.clearCapture.withPulses (last := s.wlen.toNat) _
        (captureLoop_widths (not_le.mp hlt) _ _ _ [] rfl (hfirst.trans hend) (fun _ => nextLow_head)
          ⟨by simp, Nat.zero_le _, by simp; omega⟩) h.wlen

end Sys2Proof.Machine
end

section
/-! SUPPORT. Every command keeps the invariant State.Inv, and so does every step (10_state.md R13 to R16, R20 to R25). -/
namespace Sys2Proof.Machine

/-! ### Clock and markers (41_clock_window.md R94, R100, R103) -/

theorem State.Inv.clearClock {s : State} (h : s.Inv) : { s with clk := 0, tol := 0 }.Inv :=
  { h with
    pulses := h.pulses.of_eq rfl rfl rfl rfl rfl rfl
    clock := .inl rfl
    tolerance := le_rfl }

theorem State.Inv.setClock {s : State} (h : s.Inv) {p : Nat} (hp : p ∈ candidates) : (s.setClock p).Inv := by
  have hclk : (toReg p).toNat = p := by
    refine toNat_toReg_of_lt (lt_of_le_of_lt ?_ (by decide : 128 < 2 ^ 32))
    exact (by decide : ∀ p ∈ candidates, p ≤ 128) p hp
  exact
    { h with
      pulses := h.pulses.of_eq rfl rfl rfl rfl rfl rfl
      clock := .inr (by rwa [State.setClock, hclk])
      tolerance := ((toNat_toReg_le _).trans (Nat.div_le_self _ _)).trans_eq hclk.symm }

theorem State.Inv.chooseClock {s : State} (h : s.Inv) (clk : Nat) : (s.chooseClock clk).1.Inv := by
  have h0 := h.clearClock
  unfold State.chooseClock
  split
  · exact h0
  split
  · split
    · next hmem => exact h0.setClock hmem
    · exact h0
  split
  · exact h0
  split
  · next hfound => exact h0.setClock (List.mem_of_find?_eq_some hfound)
  · exact h0

theorem State.Inv.syncMarkers {s : State} (h : s.Inv) : s.syncMarkers.1.Inv := by
  unfold State.syncMarkers
  split
  · exact h
  split
  · exact { h with pulses := h.pulses.of_eq rfl rfl rfl rfl rfl rfl }
  · exact { h with pulses := h.pulses.of_eq rfl rfl rfl rfl rfl rfl }

theorem State.Inv.sync {s : State} (h : s.Inv) (clk : Nat) : (s.sync clk).1.Inv :=
  ((h.setComplete false).capture.andThen fun _ ht => ht.chooseClock clk).andThen fun _ ht => ht.syncMarkers

theorem State.Inv.execLwfind {s t : State} (h : s.Inv) (he : execLwfind s = .next t) : t.Inv := by
  have h0 := h.setFound false
  unfold Machine.execLwfind at he
  split at he
  · cases he; exact h0.raise _
  split at he
  · cases he; exact h0.raise _
  · cases he
    refine State.Inv.done ?_ true
    exact { h0 with pulses := h0.pulses.of_eq rfl rfl rfl rfl rfl rfl }

/-! ### Blocks (42_em4x50_block.md R112) -/

theorem State.Inv.clearBlocks {s : State} (h : s.Inv) : s.clearBlocks.Inv :=
  { h with
    pulses := h.pulses.of_eq rfl rfl rfl rfl rfl rfl
    blocks := Nat.zero_le _
    blockFlags := by intro b hb; simp [State.clearBlocks] at hb }

/-- Block `b` is stored when blocks 0 to `b - 1` have been, so its flag lies below the new count. -/
theorem State.Inv.storeBlock {s : State} (h : s.Inv) {b : Nat} {bs : List Bool} (hb : b < maxBlocks)
    (hnblk : s.nblk.toNat = b) (hlen : bs.length = blockBits) : (s.storeBlock b bs).Inv := by
  have hbmax : blockBits ≤ s.params.bmax := (by decide : blockBits ≤ 64).trans h.params.2.2.1
  have hcount : (toReg (b + 1)).toNat = b + 1 :=
    toNat_toReg_of_lt (lt_of_le_of_lt hb (by decide : maxBlocks < 2 ^ 32))
  refine State.Inv.writeBits ?_ (by simpa [hlen] using hbmax)
  exact
    { h with
      blen := hbmax
      pulses := h.pulses.of_eq rfl rfl rfl rfl rfl rfl
      blocks := hcount.trans_le hb
      blockFlags := by
        intro c hc
        have hflag : s.blkpf.getLsbD c = true ∨ c = b := by
          dsimp only at hc
          split at hc
          · rw [BitVec.getLsbD_or, Bool.or_eq_true] at hc
            refine hc.imp_right fun h1 => ?_
            simp at h1
            omega
          · exact .inl hc
        have hlt : c < b + 1 := by
          rcases hflag with hold | rfl
          · exact Nat.lt_succ_of_lt (hnblk ▸ h.blockFlags c hold)
          · exact Nat.lt_succ_self c
        exact hlt.trans_eq hcount.symm }

theorem State.Inv.readBlocks (n b prev ph cur : Nat) {s : State} (h : s.Inv) (hnblk : s.nblk.toNat = b)
    (hn : b + n ≤ maxBlocks) : (State.readBlocks n b prev ph cur s).1.Inv := by
  induction n generalizing b prev ph cur s with
  | zero => exact { h with pulses := h.pulses.of_eq rfl rfl rfl rfl rfl rfl }
  | succ n ih =>
    unfold State.readBlocks
    split
    · exact { h with pulses := h.pulses.of_eq rfl rfl rfl rfl rfl rfl }
    simp only
    split
    · exact h
    · have hbase : { s with wbase := toReg (s.dataStart prev ph) }.Inv :=
        { h with pulses := h.pulses.of_eq rfl rfl rfl rfl rfl rfl }
      split
      · next he => exact hbase.askDemod he
      · next bs u he =>
        have hu : u.Inv := hbase.askDemod he
        have hnblk' : u.nblk.toNat = b := by
          rw [State.eq_of_askDemod he]
          exact hnblk
        split
        · exact hu
        split
        · exact hu
        · next hlen =>
          have hb : b < maxBlocks := by omega
          have htake : (bs.take blockBits).length = blockBits := by simpa using not_lt.mp hlen
          refine ih _ _ _ _ (hu.storeBlock hb hnblk' htake) ?_ (by omega)
          exact toNat_toReg_of_lt (lt_of_le_of_lt hb (by decide : maxBlocks < 2 ^ 32))

theorem State.Inv.readAll {s : State} (h : s.Inv) (clk : Nat) : (s.readAll clk).1.Inv := by
  have hsync := h.clearBlocks.sync clk
  have hnblk : (s.clearBlocks.sync clk).1.nblk = 0 := congrArg State.nblk (State.sync_writes _ clk).only
  unfold State.readAll
  rcases (s.clearBlocks.sync clk).andThen_cases
    (fun t => State.readBlocks maxBlocks 0 t.m1idx.toNat t.m1ph.toNat (t.m1idx.toNat + 4) t) with
    ⟨k, _, e⟩ | ⟨_, e⟩
  · rw [e]; exact hsync
  · rw [e]; exact hsync.readBlocks _ _ _ _ _ (by rw [hnblk]; rfl) (Nat.le_refl _)

/-! ### Responses (43_em4x05_cascade.md R126 to R133) -/

/-- A response that validates has its preamble at one of the offsets 0 to 13, and a payload of 32 bits. -/
theorem test05_ok {bs : List Bool} {readCmd : Bool} {o : Nat} {payload : Option (List Bool)}
    (h : test05 bs readCmd = .ok (o, payload)) :
    o < preambleOffsets ∧ ∀ p, payload = some p → p.length = 32 := by
  have hoffset : ∀ k, findPreamble bs = some k → k < preambleOffsets := fun k hk =>
    List.mem_range.mp (List.mem_of_find?_eq_some hk)
  unfold test05 at h
  split at h
  · cases h
  next k hk =>
    split at h
    · simp only at h
      split at h
      · cases h
      split at h
      · cases h
        exact ⟨hoffset _ hk, fun p hp => by cases hp; simp [payloadOf]⟩
      · cases h
    · cases h
      exact ⟨hoffset _ hk, fun p hp => by cases hp⟩

theorem State.Inv.storePayload {s : State} (h : s.Inv) {p : List Bool} (hp : p.length = 32) :
    (s.storePayload p).Inv := by
  have hbmax : 32 ≤ s.params.bmax := (by decide : 32 ≤ 64).trans h.params.2.2.1
  refine State.Inv.writeBits ?_ (by simpa [hp] using hbmax)
  exact
    { h with
      blen := hbmax
      pulses := h.pulses.of_eq rfl rfl rfl rfl rfl rfl }

theorem State.Inv.withPreoff {s : State} (h : s.Inv) {o : Nat} (ho : o < preambleOffsets) :
    { s with preoff := toReg o }.Inv :=
  { h with
    pulses := h.pulses.of_eq rfl rfl rfl rfl rfl rfl
    preambleOffset := (toNat_toReg_le o).trans_lt ho }

/-! ### The cascade (R127) -/

theorem Scheme.number_le (sch : Scheme) : sch.number ≤ 8 := by cases sch <;> decide

/-- The stage number fits STAGE.WON. -/
theorem Scheme.toNat_wonCode (sch : Scheme) : (BitVec.ofNat 4 sch.number).toNat = sch.number := by
  cases sch <;> decide

theorem State.Inv.markTried {s : State} (h : s.Inv) (sch : Scheme) : (s.markTried sch).Inv :=
  { h with pulses := h.pulses.of_eq rfl rfl rfl rfl rfl rfl }

theorem State.Inv.stageError {s : State} (h : s.Inv) (sch : Scheme) (k : ErrKind) : (s.stageError sch k).Inv :=
  { h with pulses := h.pulses.of_eq rfl rfl rfl rfl rfl rfl }

theorem State.Inv.estimateThenDemod {s t : State} (h : s.Inv) {estimate : OracleCall} {demod : Nat → OracleCall}
    {r : Option (List Bool)} (he : s.estimateThenDemod estimate demod = (r, t)) : t.Inv := by
  unfold State.estimateThenDemod at he
  split at he
  · next hclock => cases he; exact h.askClock hclock
  · next hclock => exact (h.askClock hclock).askDemod he

theorem State.Inv.stageBits {s t : State} (h : s.Inv) {sch : Scheme} {w : Window} {parent r : Option (List Bool)}
    (he : s.stageBits sch w parent = (r, t)) : t.Inv := by
  cases sch with
  | fsk | psk1 | psk1Inverted =>
    simp only [State.stageBits] at he
    exact h.estimateThenDemod he
  | psk2 | psk2Inverted => cases he; exact h
  | askManchester | askBiphase | askDiphase => exact h.askDemod he

theorem State.Inv.stageWins {s : State} (h : s.Inv) (sch : Scheme) (bs : List Bool) {o : Nat}
    {payload : Option (List Bool)} (ho : o < preambleOffsets) (hp : ∀ p, payload = some p → p.length = 32) :
    (s.stageWins sch bs o payload).Inv := by
  have hwon : { s with preoff := toReg o, stage := { s.stage with won := BitVec.ofNat 4 sch.number } }.Inv :=
    { h.withPreoff ho with
      pulses := h.pulses.of_eq rfl rfl rfl rfl rfl rfl
      stageWon := sch.toNat_wonCode.trans_le sch.number_le }
  cases payload with
  | some p => exact hwon.storePayload (hp p rfl)
  | none => exact (hwon.withBitsBounds 0 (Nat.min_le_right _ _)).writeBits (by simp)

theorem State.Inv.cascade (w : Window) (readCmd : Bool) (schemes : List Scheme) (parent : Option (List Bool))
    {s : State} (h : s.Inv) : (State.cascade w readCmd schemes parent s).1.Inv := by
  induction schemes generalizing parent s with
  | nil => exact h
  | cons sch rest ih =>
    unfold State.cascade
    simp only
    split
    · next he => exact ih _ (((h.markTried sch).stageBits he).stageError _ _)
    next bs t he =>
      have ht : t.Inv := (h.markTried sch).stageBits he
      split
      · exact ih _ (ht.stageError _ _)
      split
      · exact ih _ (ht.stageError _ _)
      · next hok => exact ht.stageWins sch bs (test05_ok hok).1 (test05_ok hok).2

theorem State.Inv.decode05 {s : State} (h : s.Inv) (addr : Nat) (readCmd : Bool) : (s.decode05 addr readCmd).1.Inv := by
  have hclear : { s with stage := { won := 0, tried := 0 }, stgerr := Vector.replicate 8 .none }.Inv :=
    { h with
      pulses := h.pulses.of_eq rfl rfl rfl rfl rfl rfl
      stageWon := Nat.zero_le _ }
  unfold State.decode05
  split
  · exact hclear
  have haddr : { s with
      stage := { won := 0, tried := 0 }, stgerr := Vector.replicate 8 .none, addr := BitVec.ofNat 4 addr }.Inv :=
    { hclear with pulses := h.pulses.of_eq rfl rfl rfl rfl rfl rfl }
  simp only
  split
  · exact haddr
  split
  · exact haddr
  · exact haddr.cascade _ _ _ _

theorem State.Inv.execX05test {s t : State} (h : s.Inv) {readCmd : Bool} (he : execX05test readCmd s = .next t) :
    t.Inv := by
  unfold Machine.execX05test at he
  split at he
  · cases he; exact h.raise _
  split at he
  · cases he; exact h.raise _
  · next hok => cases he; exact (h.withPreoff (test05_ok hok).1).done true
  · next hok => cases he; exact ((h.withPreoff (test05_ok hok).1).storePayload ((test05_ok hok).2 _ rfl)).done true

@[simp] theorem State.length_psk1ToPsk2 (s : State) (bs : List Bool) : (s.psk1ToPsk2 bs).length = bs.length := by
  unfold State.psk1ToPsk2
  split <;> simp

theorem State.Inv.execPsk2map {s t : State} (h : s.Inv) (he : execPsk2map s = .next t) : t.Inv := by
  unfold Machine.execPsk2map at he
  split at he
  · cases he; exact h.raise _
  · next hvisible =>
    cases he
    have hle : s.boff.toNat ≤ s.blen.toNat := by simpa [State.bitsMissing] using hvisible
    have hcap : s.boff.toNat + (s.psk1ToPsk2 s.visibleBits).length ≤ s.params.bmax := by
      have hblen := h.blen
      rw [State.length_psk1ToPsk2, State.visibleBits, State.length_bitRange]
      omega
    exact (h.writeBits hcap).done true

/-! ### Frames (44_em410x_frame.md R151, R156) -/

@[simp] theorem length_frame410 (id : Nat) : (frame410 id).length = 64 := by
  simp [frame410, frameRow]

@[simp] theorem State.length_frameSamples (s : State) (clk : Nat) (frame : List Bool) :
    (s.frameSamples clk frame).length = frame.length * clk := by
  simp [State.frameSamples]

theorem State.frameSamples_fit (s : State) (clk : Nat) (frame : List Bool) :
    ∀ v ∈ s.frameSamples clk frame, sampleFits s.params.sampleWidth v = true := by
  intro v hv
  simp only [State.frameSamples, List.mem_flatMap, List.mem_map] at hv
  obtain ⟨b, _, i, _, rfl⟩ := hv
  exact s.storedSample_fits _

theorem State.Inv.execE410enc {s t : State} (h : s.Inv) {clk : Nat} (he : execE410enc clk s = .next t) : t.Inv := by
  unfold Machine.execE410enc at he
  split at he
  · cases he; exact h.raise _
  split at he
  · cases he; exact h.raise _
  split at he
  · cases he; exact h.raise _
  · next hfits =>
    cases he
    have hwmax : 64 * clk ≤ s.params.wmax := not_lt.mp hfits
    have hbmax : 64 ≤ s.params.bmax := h.params.2.2.1
    have hbounds : { s with blen := 64, boff := 0, wlen := toReg (64 * clk), wbase := 0 }.Inv :=
      { h with
        wlen := (toNat_toReg_le _).trans hwmax
        blen := hbmax
        pulses := h.pulses.of_eq rfl rfl rfl rfl rfl rfl }
    refine ((hbounds.writeBits ?_).writeWave ?_ (s.frameSamples_fit clk _)).done true
    · simpa using hbmax
    · simpa using hwmax

theorem State.Inv.execE410dec {s t : State} (h : s.Inv) (he : execE410dec s = .next t) : t.Inv := by
  have hclear := h.setReport false false
  unfold Machine.execE410dec at he
  simp only at he
  split at he
  · cases he; exact (h.setReport true false).done true
  split at he
  · cases he; exact hclear.raise _
  split at he
  · cases he; exact hclear.raise _
  split at he
  · cases he; exact hclear.raise _
  split at he
  · cases he; exact hclear.raise _
  split at he
  · cases he; exact hclear.raise _
  · cases he
    refine State.Inv.done ?_ true
    exact { h with pulses := h.pulses.of_eq rfl rfl rfl rfl rfl rfl }

/-! ### The other commands -/

theorem State.Inv.parityCommand {s : State} (h : s.Inv) (rows cols : Nat) (v : Verdict) :
    (s.parityCommand rows cols v).Inv := by
  unfold State.parityCommand
  split
  · exact h.raise _
  split
  · exact h.raise _
  cases v with
  | invalid => exact h.raise _
  | fails => exact h.raise _
  | holds => exact h.done _

theorem State.Inv.execX50code {s t : State} (h : s.Inv) (he : execX50code s = .next t) : t.Inv := by
  unfold Machine.execX50code at he
  split at he
  · cases he; exact h.raise _
  · cases he
    refine State.Inv.done ?_ true
    exact { h with pulses := h.pulses.of_eq rfl rfl rfl rfl rfl rfl }

theorem State.Inv.execX05info {s t : State} (h : s.Inv) (he : execX05info s = .next t) : t.Inv := by
  cases he
  refine State.Inv.done ?_ true
  exact { h with pulses := h.pulses.of_eq rfl rfl rfl rfl rfl rfl }

theorem State.Inv.execE410wchk {s t : State} (h : s.Inv) {clk : Nat} (he : execE410wchk clk s = .next t) : t.Inv := by
  unfold Machine.execE410wchk at he
  split at he
  · cases he; exact h.raise _
  split at he
  · cases he; exact h.raise _
  · cases he; exact h.done _

theorem State.Inv.exec {i : Instr} {s t : State} (h : s.Inv) (he : exec i s = .next t) : t.Inv := by
  cases i with
  | nop => cases he; exact h.done true
  | rowpar | colpar | blkpar => cases he; exact h.parityCommand _ _ _
  | pulses => cases he; exact h.capture.conclude _
  | clksel clk => cases he; exact (h.chooseClock clk).conclude _
  | lwfind => exact h.execLwfind he
  | lwsync clk => cases he; exact (h.sync clk).conclude _
  | x50read clk => cases he; exact (h.readAll clk).conclude _
  | x50code => exact h.execX50code he
  | x05dec addr readCmd => cases he; exact (h.decode05 addr readCmd).conclude _
  | x05test readCmd => exact h.execX05test he
  | psk2map => exact h.execPsk2map he
  | x05info => exact h.execX05info he
  | e410enc clk => exact h.execE410enc he
  | e410dec => exact h.execE410dec he
  | e410wchk clk => exact h.execE410wchk he
  | rst => cases he; exact s.resetBlock_inv h.params

/-! ### The host port (30_encoding.md R72, R73) and the step -/

theorem State.Inv.writeReg {s t : State} (h : s.Inv) {n : Nat} {v : Word} (he : s.writeReg n v = some t) : t.Inv := by
  unfold State.writeReg at he
  split at he
  case h_7 =>
    split at he
    · next hcap => cases he; exact { h with wlen := hcap, pulses := h.pulses.of_eq rfl rfl rfl rfl rfl rfl }
    · cases he
  case h_9 =>
    split at he
    · next hcap => cases he; exact { h with blen := hcap, pulses := h.pulses.of_eq rfl rfl rfl rfl rfl rfl }
    · cases he
  all_goals
    cases he
    exact { h with pulses := h.pulses.of_eq rfl rfl rfl rfl rfl rfl }

theorem State.Inv.transact {s : State} (h : s.Inv) (tr : Transaction) : (s.transact tr).1.Inv := by
  cases tr with
  | wr n v =>
    simp only [State.transact]
    split
    · next he => exact h.writeReg he
    · exact h
  | wrwave i v =>
    simp only [State.transact]
    split
    · next hok => exact h.writeWave hok.1 (by simpa using hok.2)
    · exact h
  | wrbits i v =>
    simp only [State.transact]
    split
    · next hok => exact h.writeBits hok.1
    · exact h
  | rd n => exact h
  | rdwave i | rdbits i | rdpulse i =>
    simp only [State.transact]
    split
    · exact h
    · exact h

theorem State.Inv.runTransaction {s t : State} (h : s.Inv) {tr : Transaction} (he : runTransaction tr s = .next t) :
    t.Inv := by
  unfold Machine.runTransaction issueCommand at he
  split at he
  · split at he
    · exact (h.answered .done).exec he
    · cases he; exact (h.answered .done).raise _
  · cases he; exact (h.transact tr).answered _

theorem State.Inv.runEvent {s t : State} (h : s.Inv) {e : HostEvent} (he : runEvent e s = .next t) : t.Inv := by
  cases e with
  | transaction tr => exact h.runTransaction he
  | resetInput => cases he; exact s.resetBlock_inv h.params

theorem State.Inv.step {s t : State} (h : s.Inv) (he : step s = .next t) : t.Inv := by
  unfold Machine.step runNext at he
  rw [if_pos h.params] at he
  split at he
  · cases he; exact h
  · exact (h.withPending _).runEvent he

/-- Settles O23: every event completes, and what it does keeps each clause of the invariant. -/
theorem everyStepKeepsTheInvariant : Obligations.EveryStepKeepsTheInvariant := by
  intro s h
  exact ⟨step_completes h.params, fun t he => h.step he⟩

end Sys2Proof.Machine
end

section
/-! SUPPORT. The host port: what a step does with the next transaction, and what each register reads (10_state.md R11 to
R17; 30_encoding.md R72). -/
namespace Sys2Proof.Machine
open Sys2Proof.Claims

variable {s t u : State} {n m : Nat} {v : Word}

/-! ### Steps -/

/-- Settles O7: a step looks at the parameters first, and at the host's list only when they are legal. -/
theorem idleAndImpossibleSteps : Obligations.IdleAndImpossibleSteps := by
  refine ⟨fun s hwf hnil => ?_, fun s hwf => ?_⟩
  · rw [step, if_pos hwf, runNext, hnil]
  · rw [step, if_neg hwf]

/-- A step runs the next transaction of the host's list (R11). -/
theorem step_transaction {tr : Transaction} {rest : List HostEvent} (hwf : s.params.wf)
    (h : s.pending = .transaction tr :: rest) : step s = runTransaction tr { s with pending := rest } := by
  rw [step, if_pos hwf, runNext, h]
  rfl

/-- A transaction that is no write of CMD is answered at once. -/
theorem runTransaction_of_no_command {tr : Transaction} (h : tr.command? = none) :
    runTransaction tr s = .next ((s.transact tr).1.answered (s.transact tr).2) := by
  rw [runTransaction, h]

theorem command?_wr (hn : n ≠ 0x08) : (Transaction.wr n v).command? = none := if_neg hn

/-- A register write touches no buffer and nothing that is the host's. -/
theorem writeReg_keeps (h : s.writeReg n v = some t) :
    t.pc = s.pc ∧ t.pending = s.pending ∧ t.replies = s.replies ∧
      t.wave = s.wave ∧ t.pulse = s.pulse ∧ t.bits = s.bits := by
  unfold State.writeReg at h
  repeat' split at h
  all_goals cases h
  all_goals exact ⟨rfl, rfl, rfl, rfl, rfl, rfl⟩

/-- No access of the host touches its list, the index or the record. -/
theorem transact_keeps (tr : Transaction) (s : State) :
    (s.transact tr).1.pc = s.pc ∧ (s.transact tr).1.pending = s.pending ∧
      (s.transact tr).1.replies = s.replies := by
  cases tr with
  | wr n v =>
    simp only [State.transact]
    split
    · next h =>
      obtain ⟨hpc, hpending, hreplies, -⟩ := writeReg_keeps h
      exact ⟨hpc, hpending, hreplies⟩
    · exact ⟨rfl, rfl, rfl⟩
  | rd n => exact ⟨rfl, rfl, rfl⟩
  | wrwave | rdwave | wrbits | rdbits | rdpulse =>
    simp only [State.transact]
    split
    · exact ⟨rfl, rfl, rfl⟩
    · exact ⟨rfl, rfl, rfl⟩

/-- A command that a transaction starts leaves the host's list, the index and the record as the transaction set them. -/
theorem runTransaction_advances (tr : Transaction) (s : State) :
    ∃ t r, runTransaction tr s = .next t ∧ t.pc = s.pc + 1 ∧ t.pending = s.pending ∧ t.replies = s.replies ++ [r] := by
  unfold runTransaction issueCommand
  split
  · split
    · next i _ =>
      obtain ⟨t, ht⟩ := exec_completes i (s.answered .done)
      obtain ⟨-, hpending, hpc, hreplies, -⟩ := onlyDecodersCallCollaborators i _ t ht
      exact ⟨t, .done, ht, hpc, hpending, hreplies⟩
    · exact ⟨_, .done, rfl, rfl, rfl, rfl⟩
  · obtain ⟨hpc, hpending, hreplies⟩ := transact_keeps tr s
    exact ⟨_, (s.transact tr).2, rfl, by simp [hpc], by simp [hpending], by simp [hreplies]⟩

/-- Settles O12: the transaction is answered once, and no command touches the host's list, the index or the record. -/
theorem everyTransactionAdvancesByOne : Obligations.EveryTransactionAdvancesByOne := by
  refine ⟨rfl, fun s tr rest hwf h => ?_⟩
  rw [step_transaction hwf h]
  exact runTransaction_advances tr { s with pending := rest }

/-! ### Reading a register -/

/-- A read returns the register and changes nothing (R72). -/
theorem step_rd {rest : List HostEvent} (hwf : s.params.wf) (h : s.pending = .transaction (.rd n) :: rest) :
    step s = .next (taken s rest (.word (s.readReg n))) := by
  rw [step_transaction hwf h]
  rfl

theorem readReg_of_mem_registerMap (h : (n, v) ∈ registerMap s) : s.readReg n = v := by
  have hmap : (registerMap s).map (fun p => s.readReg p.1) = (registerMap s).map Prod.snd := rfl
  exact List.map_inj_left.mp hmap (n, v) h

/-- The map names the same numbers in every state. -/
theorem registerMap_numbers (s : State) :
    (registerMap s).map Prod.fst = (registerMap State.reset).map Prod.fst := rfl

theorem readReg_of_unnamed (hpacked : n ∉ [0x09, 0x0A, 0x32, 0x33]) (h : n ∉ (registerMap s).map Prod.fst) :
    s.readReg n = 0 := by
  rw [registerMap_numbers] at h
  have hn : n ∉ [0x09, 0x0A, 0x32, 0x33] ++ (registerMap State.reset).map Prod.fst := by
    rw [List.mem_append]
    exact not_or.mpr ⟨hpacked, h⟩
  unfold State.readReg
  split
  case h_44 => rfl
  all_goals exact absurd (by decide) hn

/-- Settles O55: a read returns the register's field under its number, and 0 under a number the map does not name. -/
theorem registersReadTheirFields : Obligations.RegistersReadTheirFields := by
  intro s n rest hwf h
  rw [step_rd hwf h]
  exact ⟨fun v hv => by rw [readReg_of_mem_registerMap hv], fun hpacked hn => by rw [readReg_of_unnamed hpacked hn]⟩

/-! ### Writing a register -/

theorem toWord_ofWord (v : Word) : (Cfg.ofWord v).toWord = v &&& 0xFFFF := by
  have hmask : (v &&& 0xFFFF).toNat = v.toNat % 2 ^ 16 := by
    rw [BitVec.toNat_and]
    exact Nat.and_two_pow_sub_one_eq_mod v.toNat 16
  have hlow : (v.extractLsb' 0 8).toNat = v.toNat % 2 ^ 8 := by simp
  have hhigh : (v.extractLsb' 8 8).toNat = v.toNat / 2 ^ 8 % 2 ^ 8 := by simp [Nat.shiftRight_eq_div_pow]
  apply BitVec.eq_of_toNat_eq
  rw [hmask, Cfg.toWord, Cfg.ofWord, hlow, hhigh, BitVec.toNat_ofNat]
  omega

theorem respWord_getLsbD (v : Word) : respWord (v.getLsbD 0) = v &&& 1 := by
  have hmask : (v &&& 1).toNat = v.toNat % 2 := by
    rw [BitVec.toNat_and]
    exact Nat.and_one_is_mod v.toNat
  have hbit : v.getLsbD 0 = decide (v.toNat % 2 = 1) := by
    simp [BitVec.getLsbD, Nat.testBit_zero]
  apply BitVec.eq_of_toNat_eq
  rw [hmask, hbit, respWord]
  rcases Nat.mod_two_eq_zero_or_one v.toNat with h | h <;> simp [h]

/-- The registers the host may write, CMD apart (R13). -/
def writableRegisters : List Nat := [0x00, 0x01, 0x02, 0x03, 0x0A, 0x0B, 0x10, 0x11, 0x12, 0x13, 0x15, 0x3A]

/-- Only a length above its capacity is refused (R73). -/
theorem writeReg_completes (hwlen : n = 0x10 → v.toNat ≤ s.params.wmax) (hblen : n = 0x12 → v.toNat ≤ s.params.bmax) :
    ∃ t, s.writeReg n v = some t := by
  unfold State.writeReg
  split
  case h_7 => exact ⟨_, if_pos (hwlen rfl)⟩
  case h_9 => exact ⟨_, if_pos (hblen rfl)⟩
  all_goals exact ⟨_, rfl⟩

/-- A write to a register that is read-only or that the map does not name changes nothing (R13). -/
theorem writeReg_ignored (h : n ∉ writableRegisters) : s.writeReg n v = some s := by
  unfold State.writeReg
  split
  case h_13 => rfl
  all_goals simp [writableRegisters] at h

theorem readReg_writeReg_same (h : s.writeReg n v = some t) :
    t.readReg n =
      (if n ∈ [0x00, 0x01, 0x02, 0x03, 0x10, 0x11, 0x12, 0x13, 0x15, 0x3A] then v
       else if n = 0x0A then v &&& 0xFFFF
       else if n = 0x0B then v &&& 1
       else s.readReg n) := by
  unfold State.writeReg at h
  split at h
  case h_13 =>
    cases h
    simp_all
  case h_5 =>
    cases h
    exact toWord_ofWord v
  case h_6 =>
    cases h
    exact respWord_getLsbD v
  all_goals repeat' split at h
  all_goals cases h
  all_goals simp [State.readReg]

theorem readReg_writeReg_other (h : s.writeReg n v = some t) (hm : m ≠ n) : t.readReg m = s.readReg m := by
  unfold State.writeReg at h
  repeat' split at h
  all_goals cases h
  all_goals unfold State.readReg
  all_goals split
  all_goals simp at hm ⊢

theorem readReg_answered (s : State) (r : Reply) (m : Nat) : (s.answered r).readReg m = s.readReg m := rfl

theorem readReg_withPending (s : State) (rest : List HostEvent) (m : Nat) :
    { s with pending := rest }.readReg m = s.readReg m := rfl

/-- Settles O10: the write goes through `writeReg`, and what that leaves is read back register by register. -/
theorem writtenRegistersReadBack : Obligations.WrittenRegistersReadBack := by
  intro s n v rest hwf hn h hwlen hblen
  obtain ⟨u, hu⟩ := writeReg_completes (s := { s with pending := rest }) hwlen hblen
  obtain ⟨-, -, -, hwave, hpulse, hbits⟩ := writeReg_keeps hu
  refine ⟨u.answered .done, ?_, ?_, ?_, ?_, hwave, hpulse, hbits⟩
  · rw [step_transaction hwf h, runTransaction_of_no_command (command?_wr hn), State.transact, hu]
  · rw [readReg_answered, readReg_writeReg_same hu, readReg_withPending]
  · intro m hm
    rw [readReg_answered, readReg_writeReg_other hu hm, readReg_withPending]
  · intro hignored
    rw [writeReg_ignored hignored] at hu
    cases hu
    rfl

end Sys2Proof.Machine
end

section
/-! SUPPORT. The registers that are made of fields: STATUS, CFG, STAGE and STGERR (10_state.md R14 to R17;
60_exceptions.md R170). -/
namespace Sys2Proof.Machine
open Sys2Proof.Claims

theorem ErrKind.code_lt (k : ErrKind) : k.code < 16 := by cases k <;> decide

theorem errorCode_eq_code (k : ErrKind) : errorCode k = k.code := by cases k <;> rfl

/-- Bit `k` of a number that fits the register. -/
theorem getLsbD_ofNat_div_mod {n k : Nat} {b : Bool} (hk : k < 32) (h : n / 2 ^ k % 2 = b.toNat) :
    (BitVec.ofNat 32 n).getLsbD k = b := by
  rw [BitVec.getLsbD_ofNat, Nat.testBit_eq_decide_div_mod_eq, h]
  cases b <;> simp [hk]

/-! ### STATUS -/

/-- STATUS bit for bit (R15). -/
theorem Status.toWord_fields (st : Status) :
    st.toWord.toNat % 16 = errorCode st.err ∧ st.toWord.getLsbD 4 = st.pass ∧ st.toWord.getLsbD 5 = st.complete ∧
    st.toWord.getLsbD 6 = st.allPar ∧ st.toWord.getLsbD 7 = st.found ∧ st.toWord.getLsbD 8 = st.ptrunc ∧
    st.toWord.getLsbD 9 = st.idValid ∧ st.toWord.getLsbD 10 = st.errSeen ∧ st.toWord.toNat < 2 ^ 11 := by
  have herr := st.err.code_lt
  have hpass := st.pass.toNat_le
  have hcomplete := st.complete.toNat_le
  have hallPar := st.allPar.toNat_le
  have hfound := st.found.toNat_le
  have hptrunc := st.ptrunc.toNat_le
  have hidValid := st.idValid.toNat_le
  have herrSeen := st.errSeen.toNat_le
  simp only [Status.toWord, errorCode_eq_code, BitVec.toNat_ofNat]
  refine ⟨?_, ?_, ?_, ?_, ?_, ?_, ?_, ?_, by omega⟩
  · omega
  all_goals exact getLsbD_ofNat_div_mod (by decide) (by omega)

/-- Settles O18: STATUS bit for bit, and for the writers that `written` keeps every other flag. -/
theorem statusLayoutAndWriters : Obligations.StatusLayoutAndWriters := by
  refine ⟨fun s => s.status.toWord_fields, by decide, fun i s t h hrst => ?_⟩
  obtain ⟨only, errSeen, -⟩ := exec_writes h
  refine ⟨?_, ?_, ?_, ?_, ?_, errSeen hrst⟩
  all_goals
    rw [only]
    cases i <;> simp [written, op, Status.endedAs] at hrst ⊢

/-! ### CFG, STAGE, STGERR -/

theorem Cfg.toWord_fields (c : Cfg) :
    c.toWord.toNat % 256 = c.toldiv.toNat ∧ c.toWord.toNat / 256 = c.maxErr.toNat := by
  have htoldiv := c.toldiv.isLt
  have hmaxErr := c.maxErr.isLt
  simp only [Cfg.toWord, BitVec.toNat_ofNat]
  omega

theorem Stage.toWord_fields (g : Stage) :
    g.toWord.toNat % 16 = g.won.toNat ∧ (∀ k, k < 8 → g.toWord.getLsbD (8 + k) = g.tried.getLsbD k) ∧
      ∀ k, (4 ≤ k ∧ k < 8) ∨ 16 ≤ k → g.toWord.getLsbD k = false := by
  have hwon : g.won.toNat < 2 ^ 4 := g.won.isLt
  have htried : g.tried.toNat < 2 ^ 8 := g.tried.isLt
  have hbit : ∀ k, k < 32 → g.toWord.getLsbD k = if k < 8 then g.won.getLsbD k else g.tried.getLsbD (k - 8) := by
    intro k hk
    rw [Stage.toWord, BitVec.getLsbD_ofNat, Nat.mul_comm, Nat.testBit_two_pow_mul_add _ (by omega)]
    simp [hk, BitVec.getLsbD]
  refine ⟨?_, fun k hk => ?_, fun k hk => ?_⟩
  · simp only [Stage.toWord, BitVec.toNat_ofNat]
    omega
  · rw [hbit _ (by omega), if_neg (by omega), Nat.add_sub_cancel_left]
  · by_cases h32 : k < 32
    · rw [hbit k h32]
      split
      · exact g.won.getLsbD_of_ge k (by omega)
      · exact g.tried.getLsbD_of_ge (k - 8) (by omega)
    · exact g.toWord.getLsbD_of_ge k (by omega)

/-- Codes packed four bits each, the first the lowest. -/
def packedCodes (ks : List ErrKind) : Nat := ks.foldr (fun k acc => acc * 2 ^ 4 + k.code) 0

theorem packedCodes_cons (k : ErrKind) (ks : List ErrKind) :
    packedCodes (k :: ks) = packedCodes ks * 16 + k.code := rfl

theorem packedCodes_lt (ks : List ErrKind) : packedCodes ks < 16 ^ ks.length := by
  induction ks with
  | nil => decide
  | cons k ks ih =>
    have hk := k.code_lt
    rw [packedCodes_cons, List.length_cons, Nat.pow_succ]
    omega

theorem packedCodes_nibble (ks : List ErrKind) (i : Nat) (hi : i < ks.length) :
    packedCodes ks / 16 ^ i % 16 = ks[i].code := by
  induction ks generalizing i with
  | nil => exact absurd hi (Nat.not_lt_zero i)
  | cons k ks ih =>
    have hk := k.code_lt
    rw [packedCodes_cons]
    cases i with
    | zero =>
      rw [Nat.pow_zero, Nat.div_one, List.getElem_cons_zero]
      omega
    | succ i =>
      have hdrop : (packedCodes ks * 16 + k.code) / 16 = packedCodes ks := by omega
      rw [Nat.pow_succ', ← Nat.div_div_eq_div_mul, hdrop, List.getElem_cons_succ]
      exact ih i (by simpa using hi)

theorem stgerrWord_nibble (v : Vector ErrKind 8) (k : Nat) (hk : k < 8) :
    (stgerrWord v).toNat / 16 ^ k % 16 = errorCode v[k] := by
  have hlen : v.toList.length = 8 := v.length_toList
  have hfits : packedCodes v.toList < 2 ^ 32 := (packedCodes_lt v.toList).trans_eq (by rw [hlen]; rfl)
  have hword : (stgerrWord v).toNat = packedCodes v.toList := Nat.mod_eq_of_lt hfits
  rw [hword, packedCodes_nibble v.toList k (by omega), errorCode_eq_code, Vector.getElem_toList]

/-- Settles O56, one register at a time. -/
theorem packedRegistersReadTheirFields : Obligations.PackedRegistersReadTheirFields :=
  fun s => ⟨s.cfg.toWord_fields, s.stage.toWord_fields, stgerrWord_nibble s.stgerr⟩

end Sys2Proof.Machine
end

section
/-! SUPPORT. The record of the cascade in STAGE and STGERR (10_state.md R16, R17; 43_em4x05_cascade.md R127, R128). -/
namespace Sys2Proof.Machine
open Sys2Proof.Claims

/-- The kinds a stage can fail with (R127, R133), and none for a stage that has not failed. -/
def stageKinds : List ErrKind := [.none, .demodulatorFailed, .preambleNotFound, .parityFailed, .bufferTooShort]

/-- From `s₀` on the cascade has tried the first `begun` stages, the first `lost` of them have failed, and none has
won: what it has recorded and what it has left alone. No stage before 6 asks the amplitude demodulator (R127). -/
structure Cascading (s₀ : State) (begun lost : Nat) (s : State) : Prop where
  won : s.stage.won = 0
  tried : ∀ k, k < 8 → (s.stage.tried.getLsbD k = true ↔ k < begun)
  failed : ∀ k, (hk : k < 8) → (s.stgerr[k] ≠ .none ↔ k < lost)
  kinds : ∀ k, (hk : k < 8) → s.stgerr[k] ∈ stageKinds
  unchanged : s.bits = s₀.bits ∧ s.blen = s₀.blen ∧ s.boff = s₀.boff ∧ s.word = s₀.word ∧ s.preoff = s₀.preoff
  addr : s.addr = s₀.addr
  calls : ∃ cs, s.calls = s₀.calls ++ cs ∧ (begun ≤ 5 → ∀ c ∈ cs, isAsk c = false)

variable {s₀ s t : State} {n : Nat} {sch : Scheme}

theorem Cascading.start (s : State) :
    Cascading s 0 0 { s with stage := { won := 0, tried := 0 }, stgerr := Vector.replicate 8 .none } where
  won := rfl
  tried k _ := by simp
  failed k hk := by simp
  kinds k hk := by simp [stageKinds]
  unchanged := ⟨rfl, rfl, rfl, rfl, rfl⟩
  addr := rfl
  calls := ⟨[], by simp, by simp⟩

theorem Cascading.markTried (h : Cascading s₀ n n s) (hsch : sch.number = n + 1) :
    Cascading s₀ (n + 1) n (s.markTried sch) :=
  { h with
    tried := fun k hk => by
      have hold := h.tried k hk
      simp only [State.markTried, hsch, Nat.add_sub_cancel, BitVec.getLsbD_or, Bool.or_eq_true, hold,
        Nat.lt_succ_iff_lt_or_eq]
      refine or_congr_right ?_
      simp
      omega
    calls := by
      obtain ⟨cs, hcs, hask⟩ := h.calls
      exact ⟨cs, hcs, fun hle => hask (by omega)⟩ }

theorem Cascading.stageError (h : Cascading s₀ (n + 1) n s) (hsch : sch.number = n + 1) {k : ErrKind}
    (hk : k ∈ stageKinds) (hne : k ≠ .none) : Cascading s₀ (n + 1) (n + 1) (s.stageError sch k) := by
  have hread : ∀ j, (hj : j < 8) → (s.stageError sch k).stgerr[j] = if n = j then k else s.stgerr[j] := by
    intro j hj
    simp [State.stageError, hsch, Vector.getElem_setIfInBounds]
  exact
    { h with
      failed := fun j hj => by
        rw [hread j hj]
        split
        · next heq => simp [hne, heq]
        · rw [h.failed j hj]
          omega
      kinds := fun j hj => by
        rw [hread j hj]
        split
        · exact hk
        · exact h.kinds j hj }

/-- What a stage asks its collaborators changes their queues and the record of calls alone; a stage before 6 does not ask
the amplitude demodulator (R127). -/
theorem State.stageBits_calls {w : Window} {parent r : Option (List Bool)} (h : s.stageBits sch w parent = (r, t)) :
    ∃ cs, t = { s with calls := s.calls ++ cs, demodIn := t.demodIn, clockIn := t.clockIn } ∧
      (sch.number ≤ 5 → ∀ c ∈ cs, isAsk c = false) := by
  have hestimated : ∀ {estimate : OracleCall} {demod : Nat → OracleCall}, isAsk estimate = false →
      (∀ k, isAsk (demod k) = false) → s.estimateThenDemod estimate demod = (r, t) →
      ∃ cs, t = { s with calls := s.calls ++ cs, demodIn := t.demodIn, clockIn := t.clockIn } ∧
        ∀ c ∈ cs, isAsk c = false := by
    intro estimate demod he hd h
    unfold State.estimateThenDemod at h
    split at h
    · next hclock =>
      cases h
      refine ⟨[estimate], ?_, by simp [he]⟩
      rw [State.eq_of_askClock hclock]
    · next k u hclock =>
      refine ⟨[estimate, demod k.val], ?_, by simp [he, hd]⟩
      rw [State.eq_of_askDemod h, State.eq_of_askClock hclock]
      simp
  have hasked : ∀ {c : OracleCall}, s.askDemod c = (r, t) →
      ∃ cs, t = { s with calls := s.calls ++ cs, demodIn := t.demodIn, clockIn := t.clockIn } :=
    fun {c} h => ⟨[c], by rw [State.eq_of_askDemod h]⟩
  cases sch with
  | fsk | psk1 | psk1Inverted =>
    simp only [State.stageBits] at h
    obtain ⟨cs, ht, hask⟩ := hestimated rfl (fun _ => rfl) h
    exact ⟨cs, ht, fun _ => hask⟩
  | psk2 | psk2Inverted =>
    cases h
    exact ⟨[], by simp, by simp⟩
  | askManchester | askBiphase | askDiphase =>
    simp only [State.stageBits] at h
    obtain ⟨cs, ht⟩ := hasked h
    exact ⟨cs, ht, fun hle => absurd hle (by decide)⟩

theorem Cascading.stageBits (h : Cascading s₀ (n + 1) n s) (hsch : sch.number = n + 1) {w : Window}
    {parent r : Option (List Bool)} (he : s.stageBits sch w parent = (r, t)) : Cascading s₀ (n + 1) n t := by
  obtain ⟨new, ht, hnew⟩ := State.stageBits_calls he
  obtain ⟨cs, hcs, hask⟩ := h.calls
  rw [ht]
  refine { h with calls := ⟨cs ++ new, by simp [hcs], fun hle c hc => ?_⟩ }
  rcases List.mem_append.mp hc with hc | hc
  · exact hask hle c hc
  · exact hnew (hsch.trans_le hle) c hc

/-- A response that does not validate fails with a kind a stage can fail with (R133). -/
theorem test05_error {bs : List Bool} {readCmd : Bool} {k : ErrKind} (h : test05 bs readCmd = .error k) :
    k ∈ stageKinds ∧ k ≠ .none := by
  unfold test05 at h
  split at h
  · cases h; decide
  split at h
  · simp only at h
    split at h
    · cases h; decide
    split at h
    · cases h
    · cases h; decide
  · cases h

/-- How the cascade ends: with every stage failed, or with the one that won after those before it failed. -/
theorem cascade_ends (w : Window) (readCmd : Bool) (schemes : List Scheme) (parent : Option (List Bool))
    (hs : schemes.map Scheme.number = List.range' (n + 1) schemes.length) (h : Cascading s₀ n n s) :
    (∃ t, State.cascade w readCmd schemes parent s = (t, some .decodeFailed) ∧
      Cascading s₀ (n + schemes.length) (n + schemes.length) t) ∨
    ∃ t sch bs o payload m, State.cascade w readCmd schemes parent s = (t.stageWins sch bs o payload, none) ∧
      sch.number = m + 1 ∧ Cascading s₀ (m + 1) m t := by
  induction schemes generalizing n parent s with
  | nil => exact .inl ⟨s, rfl, h⟩
  | cons sch rest ih =>
    rw [List.map_cons, List.length_cons, List.range'_succ] at hs
    obtain ⟨hsch, hrest⟩ := List.cons.inj hs
    have htried := h.markTried hsch
    have hfail : ∀ {u : State} {k : ErrKind} (parent : Option (List Bool)), Cascading s₀ (n + 1) n u →
        k ∈ stageKinds → k ≠ .none → _ := fun {u k} parent hu hk hne => ih parent hrest (hu.stageError hsch hk hne)
    rw [List.length_cons, show n + (rest.length + 1) = n + 1 + rest.length by omega]
    unfold State.cascade
    simp only
    split
    · next he => exact hfail _ (htried.stageBits hsch he) (by decide) (by decide)
    next bs t he =>
      have ht := htried.stageBits hsch he
      split
      · exact hfail _ ht (by decide) (by decide)
      split
      · next herr => exact hfail _ ht (test05_error herr).1 (test05_error herr).2
      · exact .inr ⟨t, sch, bs, _, _, n, rfl, hsch, ht⟩

/-- With a legal address, a response and samples, X05DEC is the cascade from cleared records (R127, R129). -/
theorem exec_x05dec_eq_cascade {addr : Nat} {readCmd : Bool} (haddr : addr ≤ 15) (hresp : s.respValid = true)
    (hvisible : s.wbase.toNat < s.wlen.toNat) :
    exec (.x05dec addr readCmd) s =
      .next ((State.cascade (s.window s.wbase.toNat s.wlen.toNat) readCmd cascadeOrder none
        { s with
          addr := BitVec.ofNat 4 addr, stage := { won := 0, tried := 0 }
          stgerr := Vector.replicate 8 .none }).conclude (fun _ => true)) := by
  simp only [exec, execX05dec, State.decode05, hresp]
  rw [if_neg (not_lt.mpr haddr), if_neg (by decide), if_neg (not_le.mpr hvisible)]

/-- What the winner leaves of the record: its own number in WON, and the rest as it stands (R127). -/
theorem State.stageWins_record (s : State) (sch : Scheme) (bs : List Bool) (o : Nat) (payload : Option (List Bool)) :
    (s.stageWins sch bs o payload).stage = { s.stage with won := BitVec.ofNat 4 sch.number } ∧
      (s.stageWins sch bs o payload).stgerr = s.stgerr ∧ (s.stageWins sch bs o payload).addr = s.addr ∧
      (s.stageWins sch bs o payload).calls = s.calls := by
  cases payload with
  | some p => exact ⟨rfl, rfl, rfl, rfl⟩
  | none => exact ⟨rfl, rfl, rfl, rfl⟩

/-- Settles O47: the record the cascade keeps, read off where it ends. -/
theorem x05decRecordsTheCascade : Obligations.X05decRecordsTheCascade := by
  intro s t addr readCmd h haddr hresp hvisible
  have hnibble : (BitVec.ofNat 4 addr).toNat = addr :=
    (BitVec.toNat_ofNat addr 4).trans (Nat.mod_eq_of_lt (Nat.lt_succ_of_le haddr))
  rw [exec_x05dec_eq_cascade haddr hresp hvisible] at h
  obtain rfl := Host.Outcome.next.inj h
  rcases cascade_ends _ readCmd cascadeOrder none rfl (Cascading.start { s with addr := BitVec.ofNat 4 addr }) with
    ⟨u, hend, hu⟩ | ⟨u, sch, bs, o, payload, m, hend, hsch, hu⟩
  · have hwon : u.stage.won.toNat = 0 := by rw [hu.won]; rfl
    obtain ⟨cs, hcs, -⟩ := hu.calls
    rw [hend, Progress.conclude_some]
    simp only [State.raise_stage, State.raise_stgerr, hwon]
    refine ⟨Nat.zero_le _, ?_, fun _ => rfl, fun hne => absurd rfl hne, fun k hk => ?_, fun k hk => ?_, hu.kinds,
      fun _ => hu.unchanged, cs, hcs, fun hne => absurd rfl hne⟩
    · rw [State.raise_addr, hu.addr]
      exact hnibble
    · exact (hu.tried k hk).trans (iff_of_true hk (.inl trivial))
    · exact (hu.failed k hk).trans (iff_of_true hk (.inl trivial))
  · obtain ⟨hstage, hstgerr, haddr', hcalls⟩ := u.stageWins_record sch bs o payload
    have hwon : (u.stageWins sch bs o payload).stage.won.toNat = m + 1 := by
      rw [hstage, ← hsch]
      exact sch.toNat_wonCode
    have hle : m + 1 ≤ 8 := hsch ▸ sch.number_le
    obtain ⟨cs, hcs, hask⟩ := hu.calls
    rw [hend, Progress.conclude_none]
    simp only [State.done_stage, State.done_stgerr, State.done_addr, State.done_calls, hwon, hstgerr, haddr', hcalls]
    refine ⟨hle, ?_, nofun, fun _ => ⟨rfl, rfl⟩, fun k hk => ?_, fun k hk => ?_, hu.kinds, nofun, cs, hcs,
      fun _ => hask⟩
    · rw [hu.addr]
      exact hnibble
    · rw [hstage, hu.tried k hk]
      omega
    · rw [hu.failed k hk]
      omega

end Sys2Proof.Machine
end

section
/-! SUPPORT. States that differ in unreadable buffer elements only: what reads and updates make of them (20_memory.md R41,
R44; 93_implementation_defined.md W1). -/
namespace Sys2Proof.Claims
open Sys2Proof.Machine

/-- What two such states may differ in. -/
structure Contents where
  wave : Memory Int
  pulse : Memory Word
  bits : Memory Bool
  epoch : Nat

/-- What `s` holds of that. -/
def contents (s : State) : Contents := ⟨s.wave, s.pulse, s.bits, s.epoch⟩

/-- `s` with these contents of the buffers and its registers. -/
def withContents (s : State) (c : Contents) : State :=
  { s with wave := c.wave, pulse := c.pulse, bits := c.bits, epoch := c.epoch }

/-- `t` with the buffers, the lengths and the parameters of `s`. -/
def keepBuffers (s t : State) : State :=
  { t with
    wave := s.wave, pulse := s.pulse, bits := s.bits, epoch := s.epoch
    wlen := s.wlen, plen := s.plen, blen := s.blen, params := s.params }

/-- An update of registers that looks at no buffer and changes nothing of what is readable. -/
structure RegistersOnly (f : State → State) : Prop where
  blind : ∀ s c, f (withContents s c) = withContents (f s) c
  keeps : ∀ s, f s = keepBuffers s (f s)

/-- Two progresses that have ended alike, in states that differ in unreadable elements only. -/
structure SameProgress (r q : Progress) : Prop where
  error : q.2 = r.2
  state : SameReadable r.1 q.1

/-- Both complete, in states that differ in unreadable elements only. -/
def SameOutcome (o o' : Host.Outcome State Fault Refusal) : Prop :=
  ∃ t v, o = .next t ∧ o' = .next v ∧ SameReadable t v

/-- A choice by one condition on both sides keeps a relation that both branches meet. A condition on registers is the same
in `s` and in `withContents s c` by unfolding. -/
theorem rel_ite {α : Type} {R : α → α → Prop} {p : Prop} [Decidable p] {a a' b b' : α} (ha : p → R a a')
    (hb : ¬ p → R b b') : R (if p then a else b) (if p then a' else b') := by
  split
  · next hp => exact ha hp
  · next hp => exact hb hp

variable {s t u v : State} {r q : Progress}

/-! ### Reads -/

/-- Every register has the same value. -/
theorem SameReadable.exists_contents : SameReadable s u → ∃ c, u = withContents s c
  | ⟨only, _, _, _⟩ => ⟨contents u, only⟩

theorem SameReadable.wave : SameReadable s u → ∀ i, i < s.wlen.toNat → u.waveAt i = s.waveAt i
  | ⟨_, hwave, _, _⟩ => hwave

theorem SameReadable.pulse : SameReadable s u → ∀ i, i < s.plen.toNat → u.pulseAt i = s.pulseAt i
  | ⟨_, _, hpulse, _⟩ => hpulse

theorem SameReadable.bits : SameReadable s u → ∀ i, i < s.blen.toNat → u.bitAt i = s.bitAt i
  | ⟨_, _, _, hbits⟩ => hbits

/-- A range below a bound is a matter of the elements below it. -/
theorem map_range'_congr {α : Type} {f g : Nat → α} {n b : Nat} (h : ∀ i, i < n → f i = g i) (hb : b ≤ n) (a : Nat) :
    (List.range' a (b - a)).map f = (List.range' a (b - a)).map g := by
  refine List.map_congr_left fun i hi => h i ?_
  have := List.mem_range'_1.mp hi
  omega

theorem SameReadable.waveRange (h : SameReadable s u) {b : Nat} (hb : b ≤ s.wlen.toNat) (a : Nat) :
    u.waveRange a b = s.waveRange a b := by
  rw [State.waveRange_eq_map, State.waveRange_eq_map, map_range'_congr h.wave hb]

theorem SameReadable.pulseRange (h : SameReadable s u) {b : Nat} (hb : b ≤ s.plen.toNat) (a : Nat) :
    u.pulseRange a b = s.pulseRange a b := by
  rw [State.pulseRange_eq_map, State.pulseRange_eq_map, map_range'_congr h.pulse hb]

theorem SameReadable.bitRange (h : SameReadable s u) {b : Nat} (hb : b ≤ s.blen.toNat) (a : Nat) :
    u.bitRange a b = s.bitRange a b := by
  rw [State.bitRange_eq_map, State.bitRange_eq_map, map_range'_congr h.bits hb]

theorem SameReadable.visibleWave (h : SameReadable s u) : u.visibleWave = s.visibleWave := by
  obtain ⟨c, rfl⟩ := h.exists_contents
  exact h.waveRange le_rfl _

theorem SameReadable.visibleBits (h : SameReadable s u) : u.visibleBits = s.visibleBits := by
  obtain ⟨c, rfl⟩ := h.exists_contents
  exact h.bitRange le_rfl _

theorem SameReadable.bitsMissing (h : SameReadable s u) : u.bitsMissing = s.bitsMissing := by
  obtain ⟨c, rfl⟩ := h.exists_contents
  rfl

theorem SameReadable.window (h : SameReadable s u) {hi : Nat} (hhi : hi ≤ s.wlen.toNat) (lo : Nat) :
    u.window lo hi = s.window lo hi := by
  rw [State.window, State.window, h.waveRange hhi]

/-! ### Registers, and ending a command -/

theorem SameReadable.update {f : State → State} (h : SameReadable s u) (hf : RegistersOnly f) :
    SameReadable (f s) (f u) := by
  obtain ⟨c, rfl⟩ := h.exists_contents
  rw [hf.blind, hf.keeps s]
  exact ⟨rfl, h.wave, h.pulse, h.bits⟩

theorem SameReadable.raise (h : SameReadable s u) (k : ErrKind) : SameReadable (s.raise k) (u.raise k) :=
  h.update (f := (·.raise k)) ⟨fun _ _ => rfl, fun _ => rfl⟩

theorem SameReadable.done (h : SameReadable s u) (p : Bool) : SameReadable (s.done p) (u.done p) :=
  h.update (f := (·.done p)) ⟨fun _ _ => rfl, fun _ => rfl⟩

theorem SameReadable.next (h : SameReadable t v) : SameOutcome (.next t) (.next v) := ⟨t, v, rfl, rfl, h⟩

/-- The next part starts from such states only when no error has ended the command. -/
theorem SameProgress.andThen {f : State → Progress} (h : SameProgress r q)
    (hf : ∀ {t v}, r = (t, none) → SameReadable t v → SameProgress (f t) (f v)) :
    SameProgress (r.andThen f) (q.andThen f) := by
  obtain ⟨t, k⟩ := r
  obtain ⟨v, k'⟩ := q
  obtain ⟨rfl, hstate⟩ := h
  cases k' with
  | some k => exact ⟨rfl, hstate⟩
  | none => exact hf rfl hstate

theorem SameProgress.conclude {verdict : State → Bool} (h : SameProgress r q)
    (hverdict : ∀ t c, verdict (withContents t c) = verdict t) :
    SameOutcome (.next (r.conclude verdict)) (.next (q.conclude verdict)) := by
  obtain ⟨t, k⟩ := r
  obtain ⟨v, k'⟩ := q
  obtain ⟨rfl, hstate⟩ := h
  cases k' with
  | some k => exact (hstate.raise k).next
  | none =>
    obtain ⟨c, hc⟩ := hstate.exists_contents
    have hsame : verdict v = verdict t := (congrArg verdict hc).trans (hverdict t c)
    rw [Progress.conclude_none, Progress.conclude_none, hsame]
    exact (hstate.done _).next

/-! ### Stores -/

/-- What a store at element 0 has written is read whatever the buffer held. -/
theorem getD_read?_write_zero {α : Type} (m : Memory α) {vs : List α} {j : Nat} (hj : j < vs.length) (free : α) :
    (Memory.read? (Memory.write m 0 vs) j).getD free = vs[j] := by
  have hread := Memory.read?_write_inside m 0 vs j hj
  rw [Nat.zero_add, List.getElem?_eq_getElem hj] at hread
  rw [hread, Option.getD_some]

/-- A store at element 0 that reaches the new length leaves nothing readable of what WAVE held. -/
theorem SameReadable.overwriteWave (h : SameReadable s u) {vs : List Int} {n : Word} (hn : n.toNat ≤ vs.length)
    (base : Word) :
    SameReadable ({ s with wlen := n, wbase := base }.writeWave 0 vs)
      ({ u with wlen := n, wbase := base }.writeWave 0 vs) := by
  obtain ⟨c, rfl⟩ := h.exists_contents
  refine ⟨rfl, fun i hi => ?_, h.pulse, h.bits⟩
  have hlt : i < vs.length := lt_of_lt_of_le hi hn
  exact (getD_read?_write_zero _ hlt _).trans (getD_read?_write_zero _ hlt _).symm

theorem SameReadable.overwritePulse (h : SameReadable s u) {vs : List Word} {n : Word} (hn : n.toNat ≤ vs.length) :
    SameReadable ({ s with plen := n }.writePulse 0 vs) ({ u with plen := n }.writePulse 0 vs) := by
  obtain ⟨c, rfl⟩ := h.exists_contents
  refine ⟨rfl, h.wave, fun i hi => ?_, h.bits⟩
  have hlt : i < vs.length := lt_of_lt_of_le hi hn
  exact (getD_read?_write_zero _ hlt _).trans (getD_read?_write_zero _ hlt _).symm

theorem SameReadable.overwriteBits (h : SameReadable s u) {vs : List Bool} {n : Word} (hn : n.toNat ≤ vs.length)
    (off : Word) :
    SameReadable ({ s with blen := n, boff := off }.writeBits 0 vs)
      ({ u with blen := n, boff := off }.writeBits 0 vs) := by
  obtain ⟨c, rfl⟩ := h.exists_contents
  refine ⟨rfl, h.wave, h.pulse, fun i hi => ?_⟩
  have hlt : i < vs.length := lt_of_lt_of_le hi hn
  exact (getD_read?_write_zero _ hlt _).trans (getD_read?_write_zero _ hlt _).symm

/-- The same store into both leaves the other elements as alike as they were. -/
theorem SameReadable.writeBits (h : SameReadable s u) (i : Nat) (vs : List Bool) :
    SameReadable (s.writeBits i vs) (u.writeBits i vs) := by
  obtain ⟨c, rfl⟩ := h.exists_contents
  refine ⟨rfl, h.wave, h.pulse, fun j hj => ?_⟩
  rw [State.bitAt_writeBits, State.bitAt_writeBits, h.bits j hj]

/-! ### Calls -/

/-- A demodulator answers the same call alike, and is recorded alike. -/
theorem SameReadable.askDemod (h : SameReadable s u) (call : OracleCall) :
    ∃ a t v, s.askDemod call = (a, t) ∧ u.askDemod call = (a, v) ∧ SameReadable t v := by
  obtain ⟨c, rfl⟩ := h.exists_contents
  have hanswer : ((withContents s c).askDemod call).1 = (s.askDemod call).1 := by
    cases hin : s.demodIn <;> simp [State.askDemod, withContents, hin]
  refine ⟨_, _, ((withContents s c).askDemod call).2, Prod.mk.eta.symm, Prod.ext hanswer rfl, ?_⟩
  rw [State.askDemod_frame, State.askDemod_frame]
  exact ⟨rfl, h.wave, h.pulse, h.bits⟩

/-- So does an estimator. -/
theorem SameReadable.askClock (h : SameReadable s u) (call : OracleCall) :
    ∃ a t v, s.askClock call = (a, t) ∧ u.askClock call = (a, v) ∧ SameReadable t v := by
  obtain ⟨c, rfl⟩ := h.exists_contents
  have hanswer : ((withContents s c).askClock call).1 = (s.askClock call).1 := by
    cases hin : s.clockIn <;> simp [State.askClock, withContents, hin]
  refine ⟨_, _, ((withContents s c).askClock call).2, Prod.mk.eta.symm, Prod.ext hanswer rfl, ?_⟩
  rw [State.askClock_frame, State.askClock_frame]
  exact ⟨rfl, h.wave, h.pulse, h.bits⟩

end Sys2Proof.Claims
end

section
/-! SUPPORT. Unreadable elements in Clock and Window Recovery: PULSES reads WAVE below WLEN, the markers are looked for
below PLEN, and the pulses of a capture end inside the waveform (41_clock_window.md R92, R98 to R103). -/
namespace Sys2Proof.Claims
open Sys2Proof.Machine

variable {s t u v : State}

/-! ### PULSES and CLKSEL -/

theorem SameReadable.clearCapture (h : SameReadable s u) : SameReadable s.clearCapture u.clearCapture := by
  obtain ⟨c, rfl⟩ := h.exists_contents
  exact ⟨rfl, h.wave, fun i hi => absurd hi (Nat.not_lt_zero i), h.bits⟩

theorem SameReadable.withPulses (h : SameReadable s u) (first : Nat) (widths : List Nat) (full : Bool) :
    SameReadable (s.withPulses first widths full) (u.withPulses first widths full) := by
  have hstored := h.overwritePulse (vs := widths.map toReg) (n := toReg widths.length)
    (by simpa using toNat_toReg_le widths.length)
  obtain ⟨c, rfl⟩ := h.exists_contents
  exact ⟨rfl, hstored.wave, hstored.pulse, hstored.bits⟩

theorem SameReadable.capture (h : SameReadable s u) : SameProgress s.capture u.capture := by
  have hclear := h.clearCapture
  unfold State.capture
  rw [h.visibleWave]
  obtain ⟨c, rfl⟩ := h.exists_contents
  cases s.visibleWave with
  | nil => exact ⟨rfl, hclear⟩
  | cons w ws =>
    refine rel_ite (fun _ => ⟨rfl, ?_⟩) (fun _ => ⟨rfl, hclear.withPulses _ _ _⟩)
    exact ⟨rfl, hclear.wave, hclear.pulse, hclear.bits⟩

theorem SameReadable.setClock (h : SameReadable s u) (p : Nat) : SameReadable (s.setClock p) (u.setClock p) :=
  h.update (f := (·.setClock p)) ⟨fun _ _ => rfl, fun _ => rfl⟩

theorem SameReadable.chooseClock (h : SameReadable s u) (clk : Nat) :
    SameProgress (s.chooseClock clk) (u.chooseClock clk) := by
  have hclear := h.update (f := fun s' => { s' with clk := 0, tol := 0 }) ⟨fun _ _ => rfl, fun _ => rfl⟩
  obtain ⟨c, rfl⟩ := h.exists_contents
  have hfound : searchClock (withContents s c).cfg.toldiv.toNat (withContents s c).minw.toNat =
    searchClock s.cfg.toldiv.toNat s.minw.toNat := rfl
  unfold State.chooseClock
  rw [hfound]
  refine rel_ite (fun _ => ⟨rfl, hclear⟩) fun _ => rel_ite (fun _ => ?_) fun _ =>
    rel_ite (fun _ => ⟨rfl, hclear⟩) fun _ => ?_
  · exact rel_ite (fun _ => ⟨rfl, hclear.setClock clk⟩) (fun _ => ⟨rfl, hclear⟩)
  · cases searchClock s.cfg.toldiv.toNat s.minw.toNat with
    | some p => exact ⟨rfl, hclear.setClock p⟩
    | none => exact ⟨rfl, hclear⟩

/-! ### Markers -/

theorem SameReadable.findMarker (h : SameReadable s u) (start : Nat) : u.findMarker start = s.findMarker start := by
  obtain ⟨c, rfl⟩ := h.exists_contents
  exact congrArg (scanWidths s.clk.toNat s.tol.toNat start) (h.pulseRange le_rfl start)

theorem SameReadable.pos (h : SameReadable s u) {k : Nat} (hk : k ≤ s.plen.toNat) : u.pos k = s.pos k := by
  rw [State.pos, h.pulseRange hk]
  obtain ⟨c, rfl⟩ := h.exists_contents
  rfl

theorem SameReadable.phaseAt (h : SameReadable s u) {i : Nat} (hi : i + 3 < s.plen.toNat) :
    u.phaseAt i = s.phaseAt i := by
  rw [State.phaseAt, h.pulse _ hi]
  obtain ⟨c, rfl⟩ := h.exists_contents
  rfl

/-- A match has four widths to stand on. -/
theorem scanWidths_bounds {clk tol i j : Nat} {ws : List Word} (h : scanWidths clk tol i ws = some j) :
    i ≤ j ∧ j + 3 < i + ws.length := by
  induction ws generalizing i with
  | nil => cases h
  | cons w ws ih =>
    unfold scanWidths at h
    split at h
    · next heq =>
      cases heq
      split at h
      · cases h
        simp
      · have := ih h
        simp only [List.length_cons] at this ⊢
        omega
    · cases h

/-- A marker stands where four pulses are recorded (R100). -/
theorem findMarker_lt {start i : Nat} (h : s.findMarker start = some i) : i + 3 < s.plen.toNat := by
  have hbounds := scanWidths_bounds h
  rw [State.length_pulseRange] at hbounds
  omega

/-- `pos` does not decrease (R23). -/
theorem pos_le_pos (s : State) {j k : Nat} (h : j ≤ k) : s.pos j ≤ s.pos k := by
  have hmono : Monotone s.pos := monotone_nat_of_le_succ fun n => by
    simp [State.pos_eq_position, position, List.range_succ]
  exact hmono h

theorem SameReadable.execLwfind (h : SameReadable s u) : SameOutcome (execLwfind s) (execLwfind u) := by
  have hclear := h.update (f := (·.setFound false)) ⟨fun _ _ => rfl, fun _ => rfl⟩
  obtain ⟨c, rfl⟩ := h.exists_contents
  have hmarker : (withContents s c).findMarker (withContents s c).pidx.toNat = s.findMarker s.pidx.toNat :=
    h.findMarker _
  unfold Machine.execLwfind
  rw [hmarker]
  refine rel_ite (fun _ => (hclear.raise _).next) fun _ => ?_
  cases hfind : s.findMarker s.pidx.toNat with
  | none => exact (hclear.raise _).next
  | some i =>
    have hi := findMarker_lt hfind
    simp only
    rw [h.phaseAt hi, h.pos (by omega : i ≤ s.plen.toNat)]
    refine SameReadable.next (SameReadable.done ?_ true)
    exact ⟨rfl, h.wave, h.pulse, h.bits⟩

theorem SameReadable.syncMarkers (h : SameReadable s u) : SameProgress s.syncMarkers u.syncMarkers := by
  unfold State.syncMarkers
  rw [h.findMarker]
  cases hfirst : s.findMarker 0 with
  | none => exact ⟨rfl, h⟩
  | some first =>
    simp only
    rw [h.findMarker, h.phaseAt (findMarker_lt hfirst)]
    obtain ⟨c, rfl⟩ := h.exists_contents
    cases s.findMarker (first + 4) with
    | none => exact ⟨rfl, rfl, h.wave, h.pulse, h.bits⟩
    | some term => exact ⟨rfl, rfl, h.wave, h.pulse, h.bits⟩

theorem SameReadable.setComplete (h : SameReadable s u) (b : Bool) :
    SameReadable (s.setComplete b) (u.setComplete b) :=
  h.update (f := (·.setComplete b)) ⟨fun _ _ => rfl, fun _ => rfl⟩

theorem SameReadable.sync (h : SameReadable s u) (clk : Nat) : SameProgress (s.sync clk) (u.sync clk) :=
  ((h.setComplete false).capture.andThen fun _ ht => ht.chooseClock clk).andThen fun _ ht => ht.syncMarkers

/-! ### What the synchronisation leaves -/

/-- A capture that starts at the first low sample after a high one ends inside the waveform (R92). -/
theorem captureLoop_inside {hi lo : Int} (hlt : lo < hi) (hne : s.visibleWave ≠ []) (pmax fuel : Nat) :
    let first := nextLow hi lo s.wbase.toNat s.visibleWave
    CapturedWidths pmax first.1 s.wlen.toNat (captureLoop hi lo pmax fuel first.1 first.2 []).1 := by
  intro first
  have hlen : s.visibleWave.length = s.wlen.toNat - s.wbase.toNat := s.length_waveRange _ _
  have hpos := List.length_pos_iff.mpr hne
  have hend : first.1 + first.2.length = s.wlen.toNat := by
    rw [nextLow_length]
    omega
  refine captureLoop_widths hlt fuel _ _ [] rfl hend (fun _ => nextLow_head) ⟨by simp, Nat.zero_le _, ?_⟩
  exact Nat.le.intro hend

/-- The recorded pulses end inside the waveform (10_state.md R23). -/
def PulsesInside (s : State) : Prop := s.pos s.plen.toNat ≤ s.wlen.toNat

/-- This is the bound of `PulsesOk`, with WLEN in the place of WMAX. -/
theorem withPulses_inside {pmax first : Nat} {widths : List Nat} (hw : CapturedWidths pmax first s.wlen.toNat widths)
    (full : Bool) : PulsesInside (s.withPulses first widths full) :=
  (State.PulsesOk.withPulses (s := { s with params := { s.params with wmax := s.wlen.toNat } }) s.wlen.isLt full hw
    le_rfl).inside

theorem capture_inside (s : State) : PulsesInside s.capture.1 := by
  cases hwave : s.visibleWave with
  | nil =>
    rw [State.capture, hwave]
    exact Nat.zero_le _
  | cons w ws =>
    have hinside := captureLoop_inside (s := s) (hi := s.threshHi (ws.foldl max w) (ws.foldl min w))
      (lo := s.threshLo (ws.foldl max w) (ws.foldl min w))
    rw [hwave] at hinside
    simp only [State.capture, hwave]
    split
    · exact le_refl s.wlen.toNat
    · next hlt => exact withPulses_inside (s := s.clearCapture) (hinside (not_le.mp hlt) nofun _ _) _

/-- What CLKSEL writes is no concern of the pulses. -/
theorem PulsesInside.of_clksel_writes {clk : Nat} (h : PulsesInside s) (hw : Writes (.clksel clk) s t) :
    PulsesInside t := by
  rw [hw.only]
  exact h

/-- What a synchronisation without an error leaves for the blocks: pulses that end inside the waveform, and a first
marker among them (R103). -/
structure Synced (s : State) : Prop where
  inside : PulsesInside s
  marker : s.m1idx.toNat + 3 < s.plen.toNat

theorem synced_of_syncMarkers (hinside : PulsesInside s) (h : s.syncMarkers = (t, none)) : Synced t := by
  unfold State.syncMarkers at h
  split at h
  · cases h
  next first hfirst =>
    have hmarker : (toReg first).toNat + 3 < s.plen.toNat :=
      lt_of_le_of_lt (Nat.add_le_add_right (toNat_toReg_le first) 3) (findMarker_lt hfirst)
    simp only at h
    split at h
    · cases h
      exact ⟨hinside, hmarker⟩
    · cases h
      exact ⟨hinside, hmarker⟩

theorem synced_of_sync {clk : Nat} (h : s.sync clk = (t, none)) : Synced t := by
  have hpulses := capture_inside (s.setComplete false)
  rcases Progress.andThen_cases (((s.setComplete false).capture).andThen fun t => t.chooseClock clk)
    State.syncMarkers with ⟨k, hr, he⟩ | ⟨-, he⟩
  · cases hr.symm.trans (he.symm.trans h)
  refine synced_of_syncMarkers ?_ (he.symm.trans h)
  rcases Progress.andThen_cases ((s.setComplete false).capture) (fun t => t.chooseClock clk) with
    ⟨k, -, he⟩ | ⟨-, he⟩
  · rw [he]
    exact hpulses
  · rw [he]
    exact hpulses.of_clksel_writes (State.chooseClock_writes _ clk)

end Sys2Proof.Claims
end

section
/-! SUPPORT. Unreadable elements in the decoders, the frame codec and the other commands (20_memory.md R41, R44). -/
namespace Sys2Proof.Claims
open Sys2Proof.Machine

variable {s t u v : State}

/-! ### Blocks (42_em4x50_block.md R112) -/

theorem SameReadable.clearBlocks (h : SameReadable s u) : SameReadable s.clearBlocks u.clearBlocks :=
  h.update (f := State.clearBlocks) ⟨fun _ _ => rfl, fun _ => rfl⟩

theorem SameReadable.dataStart (h : SameReadable s u) {m : Nat} (hm : m + 3 < s.plen.toNat) (ph : Nat) :
    u.dataStart m ph = s.dataStart m ph := by
  rw [State.dataStart, h.pos hm.le]
  obtain ⟨c, rfl⟩ := h.exists_contents
  rfl

theorem SameReadable.storeBlock (h : SameReadable s u) (b : Nat) {bs : List Bool} (hlen : bs.length = blockBits) :
    SameReadable (s.storeBlock b bs) (u.storeBlock b bs) := by
  have hstored := h.overwriteBits (vs := bs) (n := 45) hlen.ge 0
  obtain ⟨c, rfl⟩ := h.exists_contents
  exact ⟨rfl, hstored.wave, hstored.pulse, hstored.bits⟩

theorem SameReadable.stopBlocks (h : SameReadable s u) (cur : Nat) :
    SameProgress ({ s with pidx := toReg cur }, none) ({ u with pidx := toReg cur }, none) :=
  ⟨rfl, h.update (f := fun s' => { s' with pidx := toReg cur }) ⟨fun _ _ => rfl, fun _ => rfl⟩⟩

/-- The call for a block takes its samples below WLEN. -/
theorem SameReadable.askBlock (h : SameReadable s u) (lo : Nat) {hi : Nat} (hhi : hi ≤ s.wlen.toNat) :
    ∃ a t v,
      s.askDemod (.demodAsk .manchester (s.window lo hi) s.clk.toNat false s.cfg.maxErr.toNat) = (a, t) ∧
      u.askDemod (.demodAsk .manchester (u.window lo hi) u.clk.toNat false u.cfg.maxErr.toNat) = (a, v) ∧
      SameReadable t v := by
  rw [h.window hhi lo]
  have hask := h.askDemod (.demodAsk .manchester (s.window lo hi) s.clk.toNat false s.cfg.maxErr.toNat)
  obtain ⟨c, rfl⟩ := h.exists_contents
  exact hask

/-- Each block is looked for below PLEN, and its samples end where the pulses do. -/
theorem SameReadable.readBlocks (n b prev ph cur : Nat) (h : SameReadable s u) (hinside : PulsesInside s)
    (hprev : prev + 3 < s.plen.toNat) :
    SameProgress (State.readBlocks n b prev ph cur s) (State.readBlocks n b prev ph cur u) := by
  induction n generalizing b prev ph cur s u with
  | zero => exact h.stopBlocks cur
  | succ n ih =>
    unfold State.readBlocks
    rw [h.findMarker]
    cases hfind : s.findMarker cur with
    | none => exact h.stopBlocks cur
    | some j =>
      have hj := findMarker_lt hfind
      have hjle : j ≤ s.plen.toNat := by omega
      simp only
      rw [h.dataStart hprev, h.pos hjle, h.phaseAt hj]
      refine rel_ite (fun _ => ⟨rfl, h⟩) fun _ => ?_
      have hbase := h.update (f := fun s' => { s' with wbase := toReg (s.dataStart prev ph) })
        ⟨fun _ _ => rfl, fun _ => rfl⟩
      obtain ⟨a, t, v, hs, hu, htv⟩ := hbase.askBlock (s.dataStart prev ph) ((pos_le_pos s hjle).trans hinside)
      simp only at hs hu
      rw [hs, hu]
      cases a with
      | none => exact ⟨rfl, htv⟩
      | some bs =>
        refine rel_ite (fun _ => ⟨rfl, htv⟩) fun _ => rel_ite (fun _ => ⟨rfl, htv⟩) fun hlen => ?_
        rw [State.eq_of_askDemod hs] at htv ⊢
        exact ih _ _ _ _ (htv.storeBlock b (by simpa using not_lt.mp hlen)) hinside hj

theorem SameReadable.readAll (h : SameReadable s u) (clk : Nat) : SameProgress (s.readAll clk) (u.readAll clk) :=
  (h.clearBlocks.sync clk).andThen fun hsync ht => by
    have hsynced := synced_of_sync hsync
    obtain ⟨c, rfl⟩ := ht.exists_contents
    exact ht.readBlocks _ _ _ _ _ hsynced.inside hsynced.marker

theorem SameReadable.execX50code (h : SameReadable s u) : SameOutcome (execX50code s) (execX50code u) := by
  have hword := fun w => h.update (f := fun s' => { s' with word := w }) ⟨fun _ _ => rfl, fun _ => rfl⟩
  unfold Machine.execX50code
  rw [h.visibleBits, h.bitsMissing]
  exact rel_ite (fun _ => (h.raise _).next) fun _ => ((hword _).done true).next

/-! ### The cascade (43_em4x05_cascade.md R127 to R133) -/

theorem SameReadable.markTried (h : SameReadable s u) (sch : Scheme) :
    SameReadable (s.markTried sch) (u.markTried sch) :=
  h.update (f := (·.markTried sch)) ⟨fun _ _ => rfl, fun _ => rfl⟩

theorem SameReadable.stageError (h : SameReadable s u) (sch : Scheme) (k : ErrKind) :
    SameReadable (s.stageError sch k) (u.stageError sch k) :=
  h.update (f := (·.stageError sch k)) ⟨fun _ _ => rfl, fun _ => rfl⟩

theorem SameReadable.estimateThenDemod (h : SameReadable s u) (estimate : OracleCall) (demod : Nat → OracleCall) :
    ∃ a t v, s.estimateThenDemod estimate demod = (a, t) ∧ u.estimateThenDemod estimate demod = (a, v) ∧
      SameReadable t v := by
  obtain ⟨a, t, v, hs, hu, htv⟩ := h.askClock estimate
  unfold State.estimateThenDemod
  rw [hs, hu]
  cases a with
  | none => exact ⟨none, t, v, rfl, rfl, htv⟩
  | some k => exact htv.askDemod (demod k.val)

theorem SameReadable.stageBits (h : SameReadable s u) (sch : Scheme) (w : Window) (parent : Option (List Bool)) :
    ∃ a t v, s.stageBits sch w parent = (a, t) ∧ u.stageBits sch w parent = (a, v) ∧ SameReadable t v := by
  obtain ⟨c, rfl⟩ := h.exists_contents
  cases sch with
  | fsk | psk1 | psk1Inverted =>
    simp only [State.stageBits]
    exact h.estimateThenDemod _ _
  | psk2 | psk2Inverted => exact ⟨_, _, _, rfl, rfl, h⟩
  | askManchester | askBiphase | askDiphase => exact h.askDemod _

theorem SameReadable.storePayload (h : SameReadable s u) {p : List Bool} (hp : p.length = 32) :
    SameReadable (s.storePayload p) (u.storePayload p) := by
  have hword := h.update (f := fun s' => { s' with word := word05 p }) ⟨fun _ _ => rfl, fun _ => rfl⟩
  exact hword.overwriteBits (n := 32) hp.ge 0

theorem SameReadable.stageWins (h : SameReadable s u) (sch : Scheme) (bs : List Bool) (o : Nat)
    {payload : Option (List Bool)} (hp : ∀ p, payload = some p → p.length = 32) :
    SameReadable (s.stageWins sch bs o payload) (u.stageWins sch bs o payload) := by
  have hwon := h.update
    (f := fun s' => { s' with preoff := toReg o, stage := { s'.stage with won := BitVec.ofNat 4 sch.number } })
    ⟨fun _ _ => rfl, fun _ => rfl⟩
  obtain ⟨c, rfl⟩ := h.exists_contents
  cases payload with
  | some p => exact hwon.storePayload (hp p rfl)
  | none =>
    refine hwon.overwriteBits ((toNat_toReg_le _).trans ?_) 0
    rw [List.length_take, min_comm]

theorem SameReadable.cascade (w : Window) (readCmd : Bool) (schemes : List Scheme) (parent : Option (List Bool))
    (h : SameReadable s u) :
    SameProgress (State.cascade w readCmd schemes parent s) (State.cascade w readCmd schemes parent u) := by
  induction schemes generalizing parent s u with
  | nil => exact ⟨rfl, h⟩
  | cons sch rest ih =>
    obtain ⟨a, t, v, hs, hu, htv⟩ := (h.markTried sch).stageBits sch w parent
    unfold State.cascade
    simp only
    rw [hs, hu]
    cases a with
    | none => exact ih _ (htv.stageError _ _)
    | some bs =>
      refine rel_ite (fun _ => ih _ (htv.stageError _ _)) fun _ => ?_
      cases htest : test05 bs readCmd with
      | error k => exact ih _ (htv.stageError _ _)
      | ok win => exact ⟨rfl, htv.stageWins sch bs _ (test05_ok htest).2⟩

theorem SameReadable.decode05 (h : SameReadable s u) (addr : Nat) (readCmd : Bool) :
    SameProgress (s.decode05 addr readCmd) (u.decode05 addr readCmd) := by
  obtain ⟨c, rfl⟩ := h.exists_contents
  have hwindow : (withContents s c).window (withContents s c).wbase.toNat (withContents s c).wlen.toNat =
    s.window s.wbase.toNat s.wlen.toNat := h.window le_rfl _
  unfold State.decode05
  rw [hwindow]
  refine rel_ite (fun _ => ⟨rfl, rfl, h.wave, h.pulse, h.bits⟩) fun _ =>
    rel_ite (fun _ => ⟨rfl, rfl, h.wave, h.pulse, h.bits⟩) fun _ =>
    rel_ite (fun _ => ⟨rfl, rfl, h.wave, h.pulse, h.bits⟩) fun _ => SameReadable.cascade _ _ _ _ ?_
  exact ⟨rfl, h.wave, h.pulse, h.bits⟩

theorem SameReadable.execX05test (h : SameReadable s u) (readCmd : Bool) :
    SameOutcome (execX05test readCmd s) (execX05test readCmd u) := by
  unfold Machine.execX05test
  rw [h.visibleBits, h.bitsMissing]
  refine rel_ite (fun _ => (h.raise _).next) fun _ => ?_
  cases htest : test05 s.visibleBits readCmd with
  | error k => exact (h.raise k).next
  | ok win =>
    obtain ⟨o, payload⟩ := win
    have hoffset := h.update (f := fun s' => { s' with preoff := toReg o }) ⟨fun _ _ => rfl, fun _ => rfl⟩
    cases payload with
    | none => exact (hoffset.done true).next
    | some p => exact ((hoffset.storePayload ((test05_ok htest).2 p rfl)).done true).next

theorem SameReadable.execPsk2map (h : SameReadable s u) : SameOutcome (execPsk2map s) (execPsk2map u) := by
  unfold Machine.execPsk2map
  rw [h.visibleBits]
  obtain ⟨c, rfl⟩ := h.exists_contents
  exact rel_ite (fun _ => (h.raise _).next) fun _ => ((h.writeBits _ _).done true).next

theorem SameReadable.execX05info (h : SameReadable s u) : SameOutcome (execX05info s) (execX05info u) := by
  obtain ⟨c, rfl⟩ := h.exists_contents
  refine SameReadable.next (SameReadable.done ?_ true)
  exact ⟨rfl, h.wave, h.pulse, h.bits⟩

/-! ### Frames (44_em410x_frame.md R151, R156) -/

theorem SameReadable.execE410enc (h : SameReadable s u) (clk : Nat) :
    SameOutcome (execE410enc clk s) (execE410enc clk u) := by
  obtain ⟨c, rfl⟩ := h.exists_contents
  refine rel_ite (fun _ => (h.raise _).next) fun _ => rel_ite (fun _ => (h.raise _).next) fun _ =>
    rel_ite (fun _ => (h.raise _).next) fun _ => ?_
  have hsamples : (toReg (64 * clk)).toNat ≤ (s.frameSamples clk (frame410 s.id64)).length := by
    simpa using toNat_toReg_le (64 * clk)
  have hbits := h.overwriteBits (vs := frame410 s.id64) (n := 64) (length_frame410 _).ge 0
  exact ((hbits.overwriteWave hsamples 0).done true).next

theorem SameReadable.setReport (h : SameReadable s u) (found idValid : Bool) :
    SameReadable (s.setReport found idValid) (u.setReport found idValid) :=
  h.update (f := (·.setReport found idValid)) ⟨fun _ _ => rfl, fun _ => rfl⟩

theorem SameReadable.execE410dec (h : SameReadable s u) : SameOutcome (execE410dec s) (execE410dec u) := by
  have hraise := fun k => ((h.setReport false false).raise k).next
  have hid := fun lo hi => h.update (f := fun s' => { s' with idlo := lo, idhi := hi })
    ⟨fun _ _ => rfl, fun _ => rfl⟩
  unfold Machine.execE410dec
  simp only
  rw [h.visibleBits, h.bitsMissing]
  obtain ⟨c, rfl⟩ := h.exists_contents
  exact rel_ite (fun _ => ((h.setReport true false).done true).next) fun _ =>
    rel_ite (fun _ => hraise _) fun _ => rel_ite (fun _ => hraise _) fun _ => rel_ite (fun _ => hraise _) fun _ =>
    rel_ite (fun _ => hraise _) fun _ => rel_ite (fun _ => hraise _) fun _ =>
    (((hid _ _).setReport true true).done true).next

theorem SameReadable.execE410wchk (h : SameReadable s u) (clk : Nat) :
    SameOutcome (execE410wchk clk s) (execE410wchk clk u) := by
  obtain ⟨c, rfl⟩ := h.exists_contents
  exact rel_ite (fun _ => (h.raise _).next) fun _ => rel_ite (fun _ => (h.raise _).next) fun _ => (h.done true).next

/-! ### Every command -/

theorem SameReadable.parityCommand (h : SameReadable s u) (rows cols : Nat) (verdict : Verdict) :
    SameReadable (s.parityCommand rows cols verdict) (u.parityCommand rows cols verdict) := by
  unfold State.parityCommand
  rw [h.bitsMissing]
  refine rel_ite (fun _ => h.raise _) fun _ => rel_ite (fun _ => h.raise _) fun _ => ?_
  cases verdict with
  | invalid => exact h.raise _
  | fails => exact h.raise _
  | holds => exact h.done true

/-- After a reset no element is readable (R191, W1). -/
theorem SameReadable.resetBlock (h : SameReadable s u) : SameReadable s.resetBlock u.resetBlock := by
  obtain ⟨c, rfl⟩ := h.exists_contents
  refine ⟨rfl, ?_, ?_, ?_⟩
  all_goals exact fun i hi => absurd hi (Nat.not_lt_zero i)

/-- Every command keeps the relation. -/
theorem SameReadable.exec (h : SameReadable s u) (i : Instr) : SameOutcome (exec i s) (exec i u) := by
  cases i with
  | nop => exact (h.done true).next
  | rowpar rows cols ptype =>
    simp only [Machine.exec, execRowpar, h.visibleBits]
    exact (h.parityCommand rows cols _).next
  | colpar rows cols ptype =>
    simp only [Machine.exec, execColpar, h.visibleBits]
    exact (h.parityCommand rows cols _).next
  | blkpar rows cols ptype =>
    simp only [Machine.exec, execBlkpar, h.visibleBits]
    exact (h.parityCommand rows cols _).next
  | pulses => exact h.capture.conclude fun _ _ => rfl
  | clksel clk => exact (h.chooseClock clk).conclude fun _ _ => rfl
  | lwfind => exact h.execLwfind
  | lwsync clk => exact (h.sync clk).conclude fun _ _ => rfl
  | x50read clk => exact (h.readAll clk).conclude fun _ _ => rfl
  | x50code => exact h.execX50code
  | x05dec addr readCmd => exact (h.decode05 addr readCmd).conclude fun _ _ => rfl
  | x05test readCmd => exact h.execX05test readCmd
  | psk2map => exact h.execPsk2map
  | x05info => exact h.execX05info
  | e410enc clk => exact h.execE410enc clk
  | e410dec => exact h.execE410dec
  | e410wchk clk => exact h.execE410wchk clk
  | rst => exact h.resetBlock.next

/-- Settles O24: every command reads the buffers below their lengths alone, and a length it raises it has stored up to. -/
theorem commandsNeverReadPastALength : Obligations.CommandsNeverReadPastALength :=
  fun i _ _ h => h.exec i

end Sys2Proof.Claims
end

section
/-! SUPPORT. Who writes the buffers, and that a read writes nothing (20_memory.md R45, R46; 30_encoding.md R72). -/
namespace Sys2Proof.Machine
open Sys2Proof.Claims

/-- Settles O20: the buffers that `written` keeps for a command are those R46 does not list it for, and a parity command
may write nothing but ERR, PASS and ERRSEEN. -/
theorem onlyTheListedCommandsWriteABuffer : Obligations.OnlyTheListedCommandsWriteABuffer := by
  intro i s t h hrst
  rw [(exec_writes h).only]
  cases i <;> simp [written, Status.endedAs, op] at hrst ⊢

/-- A transaction that starts no command and changes nothing leaves only its reply. -/
theorem step_of_read {s : State} {tr : Transaction} {rest : List HostEvent} {r : Reply} (hwf : s.params.wf)
    (h : s.pending = .transaction tr :: rest) (hcommand : tr.command? = none)
    (hread : { s with pending := rest }.transact tr = ({ s with pending := rest }, r)) :
    step s = .next (taken s rest r) := by
  rw [step_transaction hwf h, runTransaction_of_no_command hcommand, hread]
  rfl

/-- Settles O8: each of the four reads changes nothing, an element read because its index lies below the length. -/
theorem readsChangeNothing : Obligations.ReadsChangeNothing := by
  intro s rest hwf
  refine ⟨fun n h => step_rd hwf h, fun i hi h => ?_, fun i hi h => ?_, fun i hi h => ?_⟩
  · exact step_of_read hwf h rfl (if_pos hi)
  · exact step_of_read hwf h rfl (if_pos hi)
  · exact step_of_read hwf h rfl (if_pos hi)

end Sys2Proof.Machine
end

section
/-! SUPPORT. The decoder in terms of the four fields of a word (30_encoding.md R60 to R64): a word decodes to a command
exactly when its fields are those of the command's row of R62, and it matches a row of R63 exactly when the op byte is
the row's and the row's must-be-0 bits are 0. -/
namespace Sys2Proof.Laws
open Sys2Proof.Laws.EncodeFields (rowFields)
open Sys2Proof.Claims (op)

variable {w v : Word} {i j : Instr}

/-! ### The fields of a word -/

/-- The fields `op`, `c`, `b`, `a` of a word (R60). -/
def wordFields (w : Word) : Nat × Nat × Nat × Nat := (opField w, cField w, bField w, aField w)

theorem opField_lt (w : Word) : opField w < 256 := by
  have := w.isLt
  simp only [opField]
  omega

theorem cField_lt (w : Word) : cField w < 256 := Nat.mod_lt _ (by decide)

theorem bField_lt (w : Word) : bField w < 256 := Nat.mod_lt _ (by decide)

theorem aField_lt (w : Word) : aField w < 256 := Nat.mod_lt _ (by decide)

/-- A word is put together again from its fields. -/
theorem commandWord_of_fields (w : Word) : commandWord (opField w) (cField w) (bField w) (aField w) = w := by
  apply BitVec.eq_of_toNat_eq
  have := w.isLt
  simp only [commandWord, opField, cField, bField, aField, BitVec.toNat_ofNat]
  omega

theorem eq_of_wordFields (h : wordFields w = wordFields v) : w = v := by
  simp only [wordFields, Prod.mk.injEq] at h
  obtain ⟨hop, hc, hb, ha⟩ := h
  rw [← commandWord_of_fields w, ← commandWord_of_fields v, hop, hc, hb, ha]

theorem wordFields_commandWord {o c b a : Nat} (ho : o < 256) (hc : c < 256) (hb : b < 256) (ha : a < 256) :
    wordFields (commandWord o c b a) = (o, c, b, a) := by
  obtain ⟨h1, h2, h3, h4⟩ := commandWord_fields ho hc hb ha
  rw [wordFields, h1, h2, h3, h4]

/-- A mask acts on each field by itself. -/
theorem wordFields_and (w m : Word) :
    wordFields (w &&& m) =
      (opField w &&& opField m, cField w &&& cField m, bField w &&& bField m, aField w &&& aField m) := by
  simp only [wordFields, opField, cField, bField, aField, BitVec.toNat_and, Nat.and_div_two_pow, Nat.and_mod_two_pow]

/-! ### Decoding by fields -/

theorem whenLegal_eq_some {legal : Bool} : whenLegal legal i = some j ↔ legal = true ∧ i = j := by
  cases legal <;> simp [whenLegal]

/-- A flag operand is bit 0 of `c` when bits 7:1 are 0. -/
theorem toNat_beq_one {c : Nat} (h : c < 2) : (c == 1).toNat = c := by
  interval_cases c <;> rfl

/-- The fields of the row of R62 decide which command a word is. -/
theorem decode_eq_some_iff : decode w = some i ↔ wordFields w = rowFields i := by
  constructor
  · intro h
    unfold decode at h
    simp only at h
    split at h
    case h_19 => cases h
    all_goals
      next hop =>
      obtain ⟨hlegal, rfl⟩ := whenLegal_eq_some.mp h
      simp only [Bool.and_eq_true, beq_iff_eq, decide_eq_true_eq] at hlegal
      simp [wordFields, rowFields, hop, hlegal, toNat_beq_one]
  · intro h
    cases i
    all_goals
      simp only [wordFields, rowFields, Prod.mk.injEq] at h
      obtain ⟨hop, hc, hb, ha⟩ := h
      simp [decode, whenLegal, hop, hc, hb, ha, Bool.toNat_le]

/-- The operands that must fit a byte are the fields `b` and `a` of the row (R61, R62). -/
theorem wellFormed_iff : wellFormed i = true ↔ (rowFields i).2.2.1 < 256 ∧ (rowFields i).2.2.2 < 256 := by
  cases i <;> simp [wellFormed, rowFields, and_comm]

/-- Operands taken from the fields of a word fit their bytes. -/
theorem wellFormed_of_wordFields (h : wordFields w = rowFields i) : wellFormed i = true := by
  rw [wellFormed_iff, ← h]
  exact ⟨bField_lt w, aField_lt w⟩

/-- The word of a well-formed command has the fields of its row. -/
theorem wordFields_encode : ∀ {i : Instr}, wellFormed i = true → wordFields (encode i) = rowFields i
  | .nop => EncodeFields.nop
  | .rowpar rows cols ptype => EncodeFields.rowpar rows cols ptype
  | .colpar rows cols ptype => EncodeFields.colpar rows cols ptype
  | .blkpar rows cols ptype => EncodeFields.blkpar rows cols ptype
  | .pulses => EncodeFields.pulses
  | .clksel clk => EncodeFields.clksel clk
  | .lwfind => EncodeFields.lwfind
  | .lwsync clk => EncodeFields.lwsync clk
  | .x50read clk => EncodeFields.x50read clk
  | .x50code => EncodeFields.x50code
  | .x05dec addr readCmd => EncodeFields.x05dec addr readCmd
  | .x05test readCmd => EncodeFields.x05test readCmd
  | .psk2map => EncodeFields.psk2map
  | .x05info => EncodeFields.x05info
  | .e410enc clk => EncodeFields.e410enc clk
  | .e410dec => EncodeFields.e410dec
  | .e410wchk clk => EncodeFields.e410wchk clk
  | .rst => EncodeFields.rst

/-- Settles O1: the fields of the encoding are those of the command's row, and a word with these fields decodes to the
command. -/
theorem decodeOfEncodeIsTheCommand : Obligations.DecodeOfEncodeIsTheCommand :=
  fun _ hwf => decode_eq_some_iff.mpr (wordFields_encode hwf)

/-- Settles O2: the decoded command has the word's fields, so it is well formed and its encoding, which has the same
fields, is the word. -/
theorem encodeOfDecodeIsTheWord : Obligations.EncodeOfDecodeIsTheWord := by
  intro w i h
  have hfields : wordFields w = rowFields i := decode_eq_some_iff.mp h
  have hwf : wellFormed i = true := wellFormed_of_wordFields hfields
  exact ⟨hwf, eq_of_wordFields ((wordFields_encode hwf).trans hfields.symm)⟩

/-- Settles O4: the ten words are closed terms, which the decoder evaluates. -/
theorem writtenOutWordsDecode : Obligations.WrittenOutWordsDecode := by
  unfold Obligations.WrittenOutWordsDecode
  decide

/-! ### The match and mask table -/

/-- The must-be-0 bits of a command's fields `c`, `b` and `a` (R62). -/
def mustBeZero : Instr → Nat × Nat × Nat
  | .rowpar _ _ _ | .colpar _ _ _ | .blkpar _ _ _ => (0xFE, 0, 0)
  | .clksel _ | .lwsync _ | .x50read _ | .e410enc _ | .e410wchk _ => (0xFF, 0xFF, 0)
  | .x05dec _ _ => (0xFE, 0xFF, 0)
  | .x05test _ => (0xFE, 0xFF, 0xFF)
  | .nop | .pulses | .lwfind | .x50code | .psk2map | .x05info | .e410dec | .rst => (0xFF, 0xFF, 0xFF)

theorem wordFields_match (i : Instr) : wordFields (matchMask i).1 = (op i, 0, 0, 0) := by
  cases i <;> simp only [matchMask, op] <;> rfl

theorem wordFields_mask (i : Instr) : wordFields (matchMask i).2 = (0xFF, mustBeZero i) := by
  cases i <;> simp only [matchMask, mustBeZero] <;> rfl

/-- A word matches a row when its op byte is the row's and the row's must-be-0 bits are 0. -/
theorem matches_iff : w &&& (matchMask i).2 = (matchMask i).1 ↔
    opField w = op i ∧ cField w &&& (mustBeZero i).1 = 0 ∧ bField w &&& (mustBeZero i).2.1 = 0 ∧
      aField w &&& (mustBeZero i).2.2 = 0 := by
  have hmask := wordFields_mask i
  simp only [wordFields, Prod.ext_iff] at hmask
  obtain ⟨hop, hc, hb, ha⟩ := hmask
  have hbyte : opField w &&& 0xFF = opField w := by
    rw [Nat.and_two_pow_sub_one_eq_mod _ 8, Nat.mod_eq_of_lt (opField_lt w)]
  have hfields : w &&& (matchMask i).2 = (matchMask i).1 ↔
      wordFields (w &&& (matchMask i).2) = wordFields (matchMask i).1 := ⟨congrArg _, eq_of_wordFields⟩
  rw [hfields, wordFields_and, wordFields_match, hop, hc, hb, ha, hbyte]
  simp only [Prod.mk.injEq]

theorem and_byte_eq_zero {n : Nat} (h : n < 256) : n &&& 0xFF = 0 ↔ n = 0 := by
  rw [Nat.and_two_pow_sub_one_eq_mod _ 8, Nat.mod_eq_of_lt h]

theorem and_high_bits_eq_zero {n : Nat} (h : n < 256) : n &&& 0xFE = 0 ↔ n < 2 := by
  have hhigh : (n &&& 0xFE) / 2 = n / 2 := by
    rw [Nat.and_div_two, Nat.and_two_pow_sub_one_eq_mod _ 7]
    omega
  have hlow : (n &&& 0xFE) % 2 = 0 := by
    rw [Nat.and_mod_two_pow (n := 1), Nat.and_zero]
  omega

/-- A command's own fields leave its must-be-0 bits 0. -/
theorem matches_of_wordFields (h : wordFields w = rowFields i) : w &&& (matchMask i).2 = (matchMask i).1 := by
  rw [matches_iff]
  cases i
  all_goals
    simp only [wordFields, rowFields, Prod.mk.injEq] at h
    obtain ⟨hop, hc, hb, ha⟩ := h
    simp [op, mustBeZero, hop, hc, hb, ha, and_high_bits_eq_zero, EncodeFields.flag_fits, Bool.toNat_le]

/-- A word that matches a row decodes to a command of the row. -/
theorem decode_of_matches (h : w &&& (matchMask j).2 = (matchMask j).1) :
    ∃ i, decode w = some i ∧ matchMask i = matchMask j := by
  obtain ⟨hop, hc, hb, ha⟩ := matches_iff.mp h
  cases j
  all_goals
    simp only [op, mustBeZero, Nat.and_zero, and_byte_eq_zero, and_high_bits_eq_zero, cField_lt, bField_lt,
      aField_lt] at hop hc hb ha
    simp [decode, whenLegal, hop, hc, hb, ha, matchMask]

/-- Settles O3: both sides are conditions on the fields; two rows that a word matches are both the row of the one
command it decodes to. -/
theorem decodeAgreesWithMatchAndMask : Obligations.DecodeAgreesWithMatchAndMask := by
  refine ⟨fun w i h => matches_of_wordFields (decode_eq_some_iff.mp h), fun w j h => decode_of_matches h, ?_⟩
  intro w i j hi hj
  obtain ⟨i', hdecode, hrow⟩ := decode_of_matches hi
  obtain ⟨j', hdecode', hrow'⟩ := decode_of_matches hj
  have hsame : i' = j' := Option.some.inj (hdecode.symm.trans hdecode')
  rw [← hrow, ← hrow', hsame]

theorem decode_eq_none_of_no_match (h : ∀ j : Instr, w &&& (matchMask j).2 ≠ (matchMask j).1) : decode w = none :=
  Option.eq_none_iff_forall_ne_some.mpr fun i hi => h i (matches_of_wordFields (decode_eq_some_iff.mp hi))

end Sys2Proof.Laws
end

section
/-! SUPPORT. Writes of CMD, and the host's writes to the buffers with their refusals (30_encoding.md R60, R64, R72,
R73). -/
namespace Sys2Proof.Machine
open Sys2Proof.Claims

variable {s : State} {rest : List HostEvent}

/-! ### Writes of CMD -/

/-- A write of CMD issues the written word (R60). -/
theorem step_command {w : Word} (hwf : s.params.wf) (h : s.pending = .transaction (.wr 0x08 w) :: rest) :
    step s = issueCommand w { s with pending := rest } := by
  rw [step_transaction hwf h]
  rfl

/-- Settles O5: the issued word decodes, and the state its command starts from is the one whose transaction has been
taken. -/
theorem stepRunsTheDecodedCommand : Obligations.StepRunsTheDecodedCommand := by
  intro s w i rest hwf h hdecode
  rw [step_command hwf h, issueCommand, hdecode]
  rfl

/-- Settles O6: a word that matches no row of R63 does not decode, and a word that does not decode is reported alone. -/
theorem illegalWordChangesStatusOnly : Obligations.IllegalWordChangesStatusOnly := by
  intro s w rest hwf h hnomatch
  rw [step_command hwf h, issueCommand, Laws.decode_eq_none_of_no_match hnomatch]
  rfl

/-! ### Refusals -/

theorem writeReg_wlen_refused {v : Word} (h : s.params.wmax < v.toNat) : s.writeReg 0x10 v = none :=
  if_neg (by omega)

theorem writeReg_blen_refused {v : Word} (h : s.params.bmax < v.toNat) : s.writeReg 0x12 v = none :=
  if_neg (by omega)

theorem transact_wr_refused {n : Nat} {v : Word} (h : s.writeReg n v = none) :
    s.transact (.wr n v) = (s, .refused) := by
  rw [State.transact, h]

theorem transact_wrwave_refused {i : Nat} {v : Int} (h : i < s.params.wmax → ¬ InSampleRange s v) :
    s.transact (.wrwave i v) = (s, .refused) :=
  if_neg fun ⟨hi, hv⟩ => h hi ((sampleFits_iff_inSampleRange s v).mp hv)

/-- Settles O9: each excluded transaction fails the test its access makes, and the access then changes nothing. -/
theorem excludedTransactionsAreRefused : Obligations.ExcludedTransactionsAreRefused := by
  intro s tr rest hwf h hexcluded
  suffices hrefused : tr.command? = none ∧
      { s with pending := rest }.transact tr = ({ s with pending := rest }, .refused) from
    step_of_read hwf h hrefused.1 hrefused.2
  rcases hexcluded with ⟨v, rfl, hv⟩ | ⟨v, rfl, hv⟩ | ⟨i, v, rfl, hi⟩ | ⟨i, v, w, rfl, hw, hv⟩ | ⟨i, rfl, hi⟩ |
    ⟨i, v, rfl, hiv⟩ | ⟨i, rfl, hi⟩ | ⟨i, rfl, hi⟩
  · exact ⟨rfl, transact_wr_refused (writeReg_wlen_refused hv)⟩
  · exact ⟨rfl, transact_wr_refused (writeReg_blen_refused hv)⟩
  · exact ⟨rfl, transact_wrwave_refused fun hlt => absurd hi (Nat.not_le.mpr hlt)⟩
  · refine ⟨rfl, transact_wrwave_refused fun _ hrange => ?_⟩
    have := hrange w hw
    omega
  · exact ⟨rfl, if_neg (Nat.not_lt.mpr hi)⟩
  · exact ⟨rfl, if_neg (show ¬(i < s.params.bmax ∧ v < 2) by omega)⟩
  · exact ⟨rfl, if_neg (Nat.not_lt.mpr hi)⟩
  · exact ⟨rfl, if_neg (Nat.not_lt.mpr hi)⟩

/-! ### Written elements -/

/-- A store of one element reaches the element at its index alone. -/
theorem getD_singleton_at {α : Type} (i j : Nat) (v old : α) :
    (if i ≤ j ∧ j < i + [v].length then [v].getD (j - i) old else old) = if j = i then v else old := by
  by_cases hj : j = i
  · simp [hj]
  · rw [if_neg (by simp only [List.length_singleton]; omega), if_neg hj]

theorem waveAt_writeWave_one (s : State) (i : Nat) (v : Int) (j : Nat) :
    (s.writeWave i [v]).waveAt j = if j = i then v else s.waveAt j := by
  rw [State.waveAt_writeWave, getD_singleton_at]

theorem bitAt_writeBits_one (s : State) (i : Nat) (v : Bool) (j : Nat) :
    (s.writeBits i [v]).bitAt j = if j = i then v else s.bitAt j := by
  rw [State.bitAt_writeBits, getD_singleton_at]

/-- A sample write inside the capacity and in range stores the sample (R72). -/
theorem step_wrwave {i : Nat} {v : Int} (hwf : s.params.wf) (h : s.pending = .transaction (.wrwave i v) :: rest)
    (hi : i < s.params.wmax) (hv : InSampleRange s v) :
    step s = .next ((taken s rest .done).writeWave i [v]) := by
  have hwrite : { s with pending := rest }.transact (.wrwave i v) =
      ({ s with pending := rest }.writeWave i [v], .done) :=
    if_pos ⟨hi, (sampleFits_iff_inSampleRange s v).mpr hv⟩
  rw [step_transaction hwf h, runTransaction_of_no_command rfl, hwrite]
  rfl

/-- A bit write inside the capacity of 0 or 1 stores the bit (R72). -/
theorem step_wrbits {i v : Nat} (hwf : s.params.wf) (h : s.pending = .transaction (.wrbits i v) :: rest)
    (hi : i < s.params.bmax) (hv : v < 2) :
    step s = .next ((taken s rest .done).writeBits i [v == 1]) := by
  have hwrite : { s with pending := rest }.transact (.wrbits i v) =
      ({ s with pending := rest }.writeBits i [v == 1], .done) := if_pos ⟨hi, hv⟩
  rw [step_transaction hwf h, runTransaction_of_no_command rfl, hwrite]
  rfl

/-- Settles O11: the step is the one store, and a store changes the read of its own element alone. -/
theorem writtenElementsReadBack : Obligations.WrittenElementsReadBack := by
  refine fun s rest hwf => ⟨fun i v h hi hv => ?_, fun i v h hi hv => ?_⟩
  · exact ⟨_, step_wrwave hwf h hi hv, rfl, waveAt_writeWave_one (taken s rest .done) i v⟩
  · exact ⟨_, step_wrbits hwf h hi hv, rfl, bitAt_writeBits_one (taken s rest .done) i (v == 1)⟩

end Sys2Proof.Machine
end

section
/-! SUPPORT. The Parity Validator (40_parity.md R80 to R88): XORs as counts of ones, both parity functions as one test of
lines, and what the parity commands make of its verdict. -/
namespace Sys2Proof.Machine
open Sys2Proof.Claims

variable {s : State} {bs : List Bool} {bit f g x y : Nat → Bool} {rows cols len size lines k m n : Nat} {pt p : Bool}
  {v : Verdict} {passes : Prop}

/-! ### XOR over a range (00_scope.md R7) -/

@[simp] theorem xorTo_zero (f : Nat → Bool) : xorTo 0 f = false := rfl

@[simp] theorem xorTo_succ (n : Nat) (f : Nat → Bool) : xorTo (n + 1) f = (xorTo n f ^^ f n) := by
  simp [xorTo, List.range_succ]

theorem xorTo_congr (h : ∀ i < n, f i = g i) : xorTo n f = xorTo n g := by
  induction n with
  | zero => rfl
  | succ n ih => rw [xorTo_succ, xorTo_succ, ih fun i hi => h i (by omega), h n (by omega)]

@[simp] theorem ones_zero (f : Nat → Bool) : ones f 0 = 0 := rfl

@[simp] theorem ones_succ (n : Nat) (f : Nat → Bool) : ones f (n + 1) = ones f n + (f n).toNat := by
  cases h : f n <;> simp [ones, List.range_succ, h]

/-- The XOR of bits is the parity of their number of ones. -/
theorem toNat_xorTo (n : Nat) (f : Nat → Bool) : (xorTo n f).toNat = ones f n % 2 := by
  induction n with
  | zero => rfl
  | succ n ih =>
    rw [xorTo_succ, ones_succ, Nat.add_mod, ← ih]
    cases xorTo n f <;> cases f n <;> rfl

theorem xorTo_eq_iff : xorTo n f = pt ↔ ones f n % 2 = pt.toNat := by
  rw [← toNat_xorTo]
  cases xorTo n f <;> cases pt <;> decide

/-- Flipping element `k` (when `p` says so) flips the XOR of the ranges that reach it. -/
theorem xorTo_xor_single (n k : Nat) (f : Nat → Bool) (p : Bool) :
    xorTo n (fun i => f i ^^ (p && decide (i = k))) = (xorTo n f ^^ (p && decide (k < n))) := by
  induction n with
  | zero => simp
  | succ n ih =>
    rw [xorTo_succ, xorTo_succ, ih]
    rcases Nat.lt_trichotomy k n with hk | rfl | hk
    · simp [hk, hk.ne', Nat.lt_succ_of_lt hk, Bool.xor_comm p]
    · simp
    · simp [hk.ne, Nat.not_lt_of_lt hk, Nat.not_lt.mpr (Nat.succ_le_of_lt hk)]

theorem xorTo_flip (hk : k < n) (h : ∀ i < n, g i = (f i ^^ (p && decide (i = k)))) : xorTo n g = (xorTo n f ^^ p) := by
  rw [xorTo_congr h, xorTo_xor_single, decide_eq_true hk, Bool.and_true]

/-! ### The parity functions (R82, R83, R86) -/

/-- The common form of the two parity functions: a matrix of `size` bits in a sequence of `len`, each of its `lines` but
the last with XOR `x`. -/
def lineVerdict (len size lines : Nat) (x : Nat → Bool) (pt : Bool) : Verdict :=
  if len < size then .invalid
  else if (List.range (lines - 1)).all (fun k => x k == pt) then .holds
  else .fails

theorem rowParityTest_eq_lineVerdict (bs : List Bool) (rows cols : Nat) (pt : Bool) :
    rowParityTest bs rows cols pt = lineVerdict bs.length (rows * cols) rows (rowXor bs cols) pt := rfl

theorem colParityTest_eq_lineVerdict (bs : List Bool) (rows cols : Nat) (pt : Bool) :
    colParityTest bs rows cols pt = lineVerdict bs.length (rows * cols) cols (colXor bs rows cols) pt := rfl

theorem lineVerdict_eq_invalid_iff : lineVerdict len size lines x pt = .invalid ↔ len < size := by
  unfold lineVerdict
  split
  · simp [*]
  · split <;> simp [*]

theorem lineVerdict_eq_holds_iff (hfit : size ≤ len) :
    lineVerdict len size lines x pt = .holds ↔ ∀ k, k + 1 < lines → x k = pt := by
  simp [lineVerdict, Nat.not_lt.mpr hfit, Nat.lt_sub_iff_add_lt]

theorem rowParityTest_eq_invalid_iff : rowParityTest bs rows cols pt = .invalid ↔ bs.length < rows * cols :=
  lineVerdict_eq_invalid_iff

theorem colParityTest_eq_invalid_iff : colParityTest bs rows cols pt = .invalid ↔ bs.length < rows * cols :=
  lineVerdict_eq_invalid_iff

/-- A bit of a row and a column of the matrix lies in the matrix. -/
theorem matrix_index_lt {r c : Nat} (hr : r < rows) (hc : c < cols) : r * cols + c < rows * cols :=
  calc r * cols + c < (r + 1) * cols := by rw [Nat.succ_mul]; omega
    _ ≤ rows * cols := Nat.mul_le_mul_right cols hr

theorem rowParityTest_eq_holds_iff (hfit : rows * cols ≤ bs.length) (hbits : ∀ i < rows * cols, bitOf bs i = bit i) :
    rowParityTest bs rows cols pt = .holds ↔ RowsPass bit rows cols pt := by
  rw [rowParityTest_eq_lineVerdict, lineVerdict_eq_holds_iff hfit]
  refine forall₂_congr fun r hr => ?_
  rw [← xorTo_eq_iff, rowXor, xorTo_congr fun c hc => hbits _ (matrix_index_lt (Nat.lt_of_succ_lt hr) hc)]

theorem colParityTest_eq_holds_iff (hfit : rows * cols ≤ bs.length) (hbits : ∀ i < rows * cols, bitOf bs i = bit i) :
    colParityTest bs rows cols pt = .holds ↔ ColsPass bit rows cols pt := by
  rw [colParityTest_eq_lineVerdict, lineVerdict_eq_holds_iff hfit]
  refine forall₂_congr fun c hc => ?_
  rw [← xorTo_eq_iff, colXor, xorTo_congr fun r hr => hbits _ (matrix_index_lt hr (Nat.lt_of_succ_lt hc))]

theorem blockParityTest_eq_invalid_iff : blockParityTest bs rows cols pt = .invalid ↔ bs.length < rows * cols := by
  rw [← rowParityTest_eq_invalid_iff (pt := pt), blockParityTest]
  cases rowParityTest bs rows cols pt <;> cases colParityTest bs rows cols pt <;> simp

theorem blockParityTest_eq_holds_iff : blockParityTest bs rows cols pt = .holds ↔
    rowParityTest bs rows cols pt = .holds ∧ colParityTest bs rows cols pt = .holds := by
  rw [blockParityTest]
  cases rowParityTest bs rows cols pt <;> cases colParityTest bs rows cols pt <;> simp

/-- Settles O26: both functions are the one test of lines, which makes the length check first. -/
theorem parityTestsFailClosed : Obligations.ParityTestsFailClosed :=
  fun _ _ _ _ => ⟨rowParityTest_eq_invalid_iff, colParityTest_eq_invalid_iff⟩

/-! ### The commands (R80, R84 to R87) -/

/-- Settles O25: NOP is `done(1)`. -/
theorem nopReportsSuccessOnly : Obligations.NopReportsSuccessOnly := fun _ => rfl

theorem State.bitOf_visibleBits {i : Nat} (h : i < s.visibleBits.length) : bitOf s.visibleBits i = offsetBit s i := by
  rw [bitOf, List.getD_eq_getElem _ _ h]
  simp [State.visibleBits, State.bitRange_eq_map, offsetBit]

theorem State.length_visibleBits (s : State) : s.visibleBits.length = s.blen.toNat - s.boff.toNat :=
  s.length_bitRange _ _

theorem State.parityCommand_of_short (hrows : rows ≠ 0) (hcols : cols ≠ 0)
    (hshort : s.blen.toNat < s.boff.toNat + rows * cols) (hinvalid : s.visibleBits.length < rows * cols → v = .invalid) :
    s.parityCommand rows cols v = raised s .bufferTooShort := by
  unfold State.parityCommand
  rw [if_neg (not_or.mpr ⟨hrows, hcols⟩)]
  by_cases hmissing : s.bitsMissing = true
  · exact if_pos hmissing
  · have hle : s.boff.toNat ≤ s.blen.toNat := by simpa [State.bitsMissing] using hmissing
    rw [if_neg hmissing, hinvalid (by rw [s.length_visibleBits]; omega)]
    rfl

theorem State.parityCommand_of_fits (hrows : rows ≠ 0) (hcols : cols ≠ 0)
    (hfit : s.boff.toNat + rows * cols ≤ s.blen.toNat) :
    (v = .fails → s.parityCommand rows cols v = raised s .parityFailed) ∧
      (v = .holds → s.parityCommand rows cols v = passed s true) := by
  have hpresent : ¬ s.bitsMissing = true := by
    simp only [State.bitsMissing, decide_eq_true_eq]
    omega
  unfold State.parityCommand
  rw [if_neg (not_or.mpr ⟨hrows, hcols⟩), if_neg hpresent]
  exact ⟨fun hv => by rw [hv]; rfl, fun hv => by rw [hv]; rfl⟩

/-- A command that ends by the verdict of a test with a length check (R84): the outcomes in the order of the rules. -/
theorem parityCommand_outcome {i : Instr} (hexec : exec i s = .next (s.parityCommand rows cols v))
    (hinvalid : v = .invalid ↔ s.visibleBits.length < rows * cols)
    (hholds : rows * cols ≤ s.visibleBits.length → (v = .holds ↔ passes)) :
    ((rows = 0 ∨ cols = 0) → exec i s = .next (raised s .invalidArgument)) ∧
    (rows ≠ 0 → cols ≠ 0 → s.blen.toNat < s.boff.toNat + rows * cols → exec i s = .next (raised s .bufferTooShort)) ∧
    (rows ≠ 0 → cols ≠ 0 → s.boff.toNat + rows * cols ≤ s.blen.toNat → ¬ passes →
      exec i s = .next (raised s .parityFailed)) ∧
    (rows ≠ 0 → cols ≠ 0 → s.boff.toNat + rows * cols ≤ s.blen.toNat → passes → exec i s = .next (passed s true)) := by
  have hvisible (hfit : s.boff.toNat + rows * cols ≤ s.blen.toNat) : rows * cols ≤ s.visibleBits.length := by
    rw [s.length_visibleBits]
    omega
  rw [hexec]
  refine ⟨fun hzero => congrArg _ (if_pos hzero), fun hr hc hshort => ?_, fun hr hc hfit hnot => ?_,
    fun hr hc hfit hpass => ?_⟩
  · exact congrArg _ (State.parityCommand_of_short hr hc hshort hinvalid.mpr)
  · have hfails : v = .fails := by
      cases v with
      | holds => exact absurd ((hholds (hvisible hfit)).mp rfl) hnot
      | fails => rfl
      | invalid => exact absurd (hinvalid.mp rfl) (Nat.not_lt.mpr (hvisible hfit))
    exact congrArg _ ((State.parityCommand_of_fits hr hc hfit).1 hfails)
  · exact congrArg _ ((State.parityCommand_of_fits hr hc hfit).2 ((hholds (hvisible hfit)).mpr hpass))

theorem State.rowParityTest_visibleBits (hfit : rows * cols ≤ s.visibleBits.length) :
    rowParityTest s.visibleBits rows cols pt = .holds ↔ RowsPass (offsetBit s) rows cols pt :=
  rowParityTest_eq_holds_iff hfit fun _ hi => s.bitOf_visibleBits (hi.trans_le hfit)

theorem State.colParityTest_visibleBits (hfit : rows * cols ≤ s.visibleBits.length) :
    colParityTest s.visibleBits rows cols pt = .holds ↔ ColsPass (offsetBit s) rows cols pt :=
  colParityTest_eq_holds_iff hfit fun _ hi => s.bitOf_visibleBits (hi.trans_le hfit)

/-- Settles O27: the row function's verdict on the visible bits, whose rows it counts. -/
theorem rowparOutcome : Obligations.RowparOutcome := fun _ _ _ _ =>
  parityCommand_outcome rfl rowParityTest_eq_invalid_iff State.rowParityTest_visibleBits

/-- Settles O28: the column function's verdict on the visible bits, whose columns it counts. -/
theorem colparOutcome : Obligations.ColparOutcome := fun _ _ _ _ =>
  parityCommand_outcome rfl colParityTest_eq_invalid_iff State.colParityTest_visibleBits

/-- Settles O29: the block's verdict is that both functions hold. -/
theorem blkparOutcome : Obligations.BlkparOutcome := by
  intro s rows cols pt
  obtain ⟨hzero, hshort, hfails, hpass⟩ :=
    parityCommand_outcome (s := s) (i := .blkpar rows cols pt)
      (passes := RowsPass (offsetBit s) rows cols pt ∧ ColsPass (offsetBit s) rows cols pt) rfl
      blockParityTest_eq_invalid_iff fun hfit => by
        rw [blockParityTest_eq_holds_iff, State.rowParityTest_visibleBits hfit, State.colParityTest_visibleBits hfit]
  exact ⟨hzero, hshort, hfails, fun hr hc hfit hrows hcols => hpass hr hc hfit ⟨hrows, hcols⟩⟩

/-! ### A flipped bit (R88) -/

theorem bitOf_flip (hk : k < bs.length) (i : Nat) :
    bitOf (bs.set k (!(bs.getD k false))) i = (bitOf bs i ^^ decide (i = k)) := by
  by_cases hi : i = k
  · subst hi
    simp [bitOf, List.getD_eq_getElem?_getD, hk]
  · simp [bitOf, List.getD_eq_getElem?_getD, List.getElem?_set_ne (Ne.symm hi), hi]

/-- Two bits of a matrix stand at one place of the sequence when their rows and their columns are the same. -/
theorem matrix_index_eq_iff {r c r' c' : Nat} (hc : c < cols) (hc' : c' < cols) :
    r' * cols + c' = r * cols + c ↔ r' = r ∧ c' = c := by
  refine ⟨fun h => ?_, fun ⟨hr, hc⟩ => by rw [hr, hc]⟩
  have hrow : r' = r := by
    have hdiv := congrArg (· / cols) h
    simpa [Nat.mul_comm _ cols, Nat.mul_add_div (Nat.zero_lt_of_lt hc), Nat.div_eq_of_lt hc, Nat.div_eq_of_lt hc']
      using hdiv
  exact ⟨hrow, by subst hrow; omega⟩

theorem rowXor_flip {r c : Nat} (hc : c < cols) (hin : r * cols + c < bs.length) (r' : Nat) :
    rowXor (bs.set (r * cols + c) (!(bs.getD (r * cols + c) false))) cols r' = (rowXor bs cols r' ^^ decide (r' = r)) :=
  xorTo_flip hc fun c' hc' => by
    rw [bitOf_flip hin, ← Bool.decide_and, decide_eq_decide.mpr (matrix_index_eq_iff hc hc')]

theorem colXor_flip {r c c' : Nat} (hr : r < rows) (hc : c < cols) (hin : r * cols + c < bs.length) (hc' : c' < cols) :
    colXor (bs.set (r * cols + c) (!(bs.getD (r * cols + c) false))) rows cols c' =
      (colXor bs rows cols c' ^^ decide (c' = c)) :=
  xorTo_flip hr fun r' _ => by
    rw [bitOf_flip hin, Bool.and_comm, ← Bool.decide_and, decide_eq_decide.mpr (matrix_index_eq_iff hc hc')]

/-- Lines that all hold, with the XOR of line `m` flipped: the test fails unless `m` is the line it leaves out. -/
theorem lineVerdict_flip (hfit : size ≤ len) (hholds : lineVerdict len size lines x pt = .holds)
    (hflip : ∀ k, k + 1 < lines → y k = (x k ^^ decide (k = m))) :
    lineVerdict len size lines y pt = if m + 1 < lines then .fails else .holds := by
  have hx : ∀ k, k + 1 < lines → x k = pt := (lineVerdict_eq_holds_iff hfit).mp hholds
  by_cases hm : m + 1 < lines
  · have hy : y m ≠ pt := by simp [hflip m hm, hx m hm]
    have hnot : lineVerdict len size lines y pt ≠ .holds := fun h => hy ((lineVerdict_eq_holds_iff hfit).mp h m hm)
    have hvalid : lineVerdict len size lines y pt ≠ .invalid := fun h =>
      Nat.not_lt.mpr hfit (lineVerdict_eq_invalid_iff.mp h)
    rw [if_pos hm]
    cases hv : lineVerdict len size lines y pt with
    | holds => exact absurd hv hnot
    | fails => rfl
    | invalid => exact absurd hv hvalid
  · rw [if_neg hm, lineVerdict_eq_holds_iff hfit]
    intro k hk
    have hne : k ≠ m := fun h => hm (h ▸ hk)
    simp [hflip k hk, hx k hk, hne]

/-- Settles O30: a flipped bit flips the XOR of its own row and of its own column alone. -/
theorem singleFlipDetection : Obligations.SingleFlipDetection := by
  intro bs rows cols pt r c hr hc hfit hrows hcols flipped
  have hin : r * cols + c < bs.length := (matrix_index_lt hr hc).trans_le hfit
  have hlen : flipped.length = bs.length := List.length_set
  rw [rowParityTest_eq_lineVerdict, colParityTest_eq_lineVerdict, hlen]
  exact ⟨lineVerdict_flip hfit hrows fun r' _ => rowXor_flip hc hin r',
    lineVerdict_flip hfit hcols fun c' hc' => colXor_flip hr hc hin (Nat.lt_of_succ_lt hc')⟩

end Sys2Proof.Machine
end

section
/-! SUPPORT. PULSES (41_clock_window.md R90 to R93): the scans over the visible waveform find the next low sample, the
capture loop records the widths between such samples, and what the command leaves follows from its three ends. -/
namespace Sys2Proof.Machine
open Sys2Proof.Claims

variable {s : State} {hi lo mx mn : Int} {i j p q pmax : Nat} {widths : List Nat}

/-! ### Scanning the waveform (R91) -/

/-- The elements of a range: the first one and those from the next index on. -/
theorem map_range'_cons {α : Type} (f : Nat → α) {i n : Nat} (h : i < n) :
    (List.range' i (n - i)).map f = f i :: (List.range' (i + 1) (n - (i + 1))).map f := by
  rw [show n - i = n - (i + 1) + 1 by omega, List.range'_succ, List.map_cons]

theorem waveRange_cons (s : State) {i n : Nat} (h : i < n) :
    s.waveRange i n = s.waveAt i :: s.waveRange (i + 1) n := by
  rw [State.waveRange_eq_map, State.waveRange_eq_map, map_range'_cons _ h]

theorem waveRange_eq_nil (s : State) {i n : Nat} (h : n ≤ i) : s.waveRange i n = [] := by
  rw [State.waveRange_eq_map, Nat.sub_eq_zero_of_le h]
  rfl

/-- From `i` on, `j` is the first index below `n` whose sample does not satisfy `skip`, or `n` when there is none. -/
structure StopsAt (s : State) (skip : Int → Bool) (i n j : Nat) : Prop where
  start_le : i ≤ j
  le_end : j ≤ n
  skipped : ∀ k, i ≤ k → k < j → skip (s.waveAt k) = true
  stop : j < n → skip (s.waveAt j) = false

/-- The scan of R92 stops there. -/
theorem skipWhile_waveRange (s : State) (skip : Int → Bool) {i n : Nat} (h : i ≤ n) :
    ∃ j, StopsAt s skip i n j ∧ skipWhile skip i (s.waveRange i n) = (j, s.waveRange j n) := by
  induction h using Nat.decreasingInduction with
  | self => exact ⟨n, ⟨le_rfl, le_rfl, fun k _ _ => by omega, fun hlt => by omega⟩, by
      rw [waveRange_eq_nil s le_rfl]; rfl⟩
  | of_succ i hi ih =>
    rw [waveRange_cons s hi, skipWhile]
    by_cases hskip : skip (s.waveAt i) = true
    · obtain ⟨j, ⟨hle, hend, hskipped, hstop⟩, he⟩ := ih
      refine ⟨j, ⟨by omega, hend, fun k hk hkj => ?_, hstop⟩, by rw [if_pos hskip, he]⟩
      rcases hk.eq_or_lt with rfl | hk
      · exact hskip
      · exact hskipped k hk hkj
    · exact ⟨i, ⟨le_rfl, hi.le, fun k _ _ => by omega, fun _ => by simpa using hskip⟩, by
        rw [if_neg hskip, waveRange_cons s hi]⟩

theorem StopsAt.eq {skip : Int → Bool} {n k : Nat} (h : StopsAt s skip i n j) (hik : i ≤ k) (hkn : k < n)
    (hskipped : ∀ m, i ≤ m → m < k → skip (s.waveAt m) = true) (hstop : skip (s.waveAt k) = false) : k = j := by
  rcases Nat.lt_trichotomy k j with hlt | rfl | hlt
  · exact absurd hstop (by simp [h.skipped k hik hlt])
  · rfl
  · exact absurd (h.stop (hlt.trans hkn)) (by simp [hskipped j h.start_le hlt])

/-- The two scans reach the next low sample, or the end of the waveform when there is none. -/
theorem nextLow_waveRange (hlt : lo < hi) (hin : i ≤ s.wlen.toNat) :
    ∃ q, i ≤ q ∧ q ≤ s.wlen.toNat ∧
      nextLow hi lo i (s.waveRange i s.wlen.toNat) = (q, s.waveRange q s.wlen.toNat) ∧
      ∀ j, NextLow s hi lo i j ↔ j = q ∧ q < s.wlen.toNat := by
  obtain ⟨high, hhigh, he⟩ := skipWhile_waveRange s (fun w => w < hi) hin
  obtain ⟨low, hlow, he'⟩ := skipWhile_waveRange s (fun w => lo < w) hhigh.le_end
  refine ⟨low, hhigh.start_le.trans hlow.start_le, hlow.le_end, by rw [nextLow, he, he'], fun j => ⟨?_, ?_⟩⟩
  · rintro ⟨h, hih, hhj, hjn, hbelow, hreach, habove, hstop⟩
    obtain rfl : h = high := hhigh.eq hih (hhj.trans hjn) (by simpa using hbelow) (by simpa using hreach)
    obtain rfl : j = low := hlow.eq hhj.le hjn (by simpa using habove) (by simpa using hstop)
    exact ⟨rfl, hjn⟩
  · rintro ⟨rfl, hjn⟩
    have hreach : hi ≤ s.waveAt high := by simpa using hhigh.stop (hlow.start_le.trans_lt hjn)
    have hstop : s.waveAt j ≤ lo := by simpa using hlow.stop hjn
    have hne : high ≠ j := by
      rintro rfl
      exact absurd (hlt.trans_le hreach) (not_lt.mpr hstop)
    exact ⟨high, hhigh.start_le, lt_of_le_of_ne hlow.start_le hne, hjn, by simpa using hhigh.skipped, hreach,
      by simpa using hlow.skipped, hstop⟩

theorem lt_of_nextLow (h : NextLow s hi lo i j) : i < j ∧ j < s.wlen.toNat := by
  obtain ⟨high, hle, hlt, hend, -⟩ := h
  exact ⟨hle.trans_lt hlt, hend⟩

/-! ### The capture loop (R92) -/

/-- Each recorded width leads from a low sample to the next; the first starts at `p` (R91). -/
def Chained (s : State) (hi lo : Int) (p : Nat) (widths : List Nat) : Prop :=
  ∀ k, k < widths.length → NextLow s hi lo (p + (widths.take k).sum) (p + (widths.take (k + 1)).sum)

theorem Chained.append (h : Chained s hi lo p widths) (hq : NextLow s hi lo (p + widths.sum) q) :
    Chained s hi lo p (widths ++ [q - (p + widths.sum)]) := by
  intro k hk
  rw [List.length_append, List.length_singleton] at hk
  rw [List.take_append_of_le_length (Nat.le_of_lt_succ hk)]
  rcases (Nat.le_of_lt_succ hk).eq_or_lt with rfl | hk
  · have hlt := (lt_of_nextLow hq).1
    rw [List.take_length, List.take_of_length_le (by simp), List.sum_append, List.sum_singleton,
      show p + (widths.sum + (q - (p + widths.sum))) = q by omega]
    exact hq
  · rw [List.take_append_of_le_length hk]
    exact h k hk

/-- What the capture loop records from `p` on, and why it stopped (R92). -/
structure Captured (s : State) (hi lo : Int) (pmax p : Nat) (widths : List Nat) (truncated : Bool) : Prop where
  chained : Chained s hi lo p widths
  full : truncated = true → widths.length = pmax ∧ ∃ j, NextLow s hi lo (p + widths.sum) j
  ended : truncated = false → ∀ j, ¬ NextLow s hi lo (p + widths.sum) j

theorem Captured.nothing {truncated : Bool} (h : Captured s hi lo pmax p widths truncated)
    (hend : s.wlen.toNat ≤ p) : widths = [] ∧ truncated = false := by
  constructor
  · by_contra hne
    have hbounds := lt_of_nextLow (h.chained 0 (List.length_pos_iff.mpr hne))
    omega
  · by_contra htrue
    obtain ⟨-, j, hj⟩ := h.full (Bool.eq_true_of_not_eq_false htrue)
    have hbounds := lt_of_nextLow hj
    omega

/-- One turn of the loop, by what the scans reach. -/
theorem captureLoop_succ {fuel : Nat}
    (hq : nextLow hi lo i (s.waveRange i s.wlen.toNat) = (q, s.waveRange q s.wlen.toNat)) (hiq : i ≤ q) :
    captureLoop hi lo pmax (fuel + 1) i (s.waveRange i s.wlen.toNat) widths =
      if q < s.wlen.toNat then
        if widths.length = pmax then (widths, true)
        else captureLoop hi lo pmax fuel q (s.waveRange q s.wlen.toNat) (widths ++ [q - i])
      else (widths, false) := by
  by_cases hend : q < s.wlen.toNat
  · rw [waveRange_cons s (hiq.trans_lt hend)] at hq ⊢
    rw [if_pos hend, captureLoop]
    simp only [hq]
    rw [waveRange_cons s hend]
  · rw [waveRange_eq_nil s (not_lt.mp hend)] at hq
    rw [if_neg hend]
    cases hwave : s.waveRange i s.wlen.toNat with
    | nil => rfl
    | cons w ws =>
      rw [hwave] at hq
      rw [captureLoop]
      simp only [hq]

theorem captureLoop_captured (hlt : lo < hi) {fuel : Nat} (hend : p + widths.sum ≤ s.wlen.toNat)
    (hfuel : s.wlen.toNat ≤ p + widths.sum + fuel) (hchained : Chained s hi lo p widths)
    {r : List Nat × Bool}
    (hr : captureLoop hi lo pmax fuel (p + widths.sum) (s.waveRange (p + widths.sum) s.wlen.toNat) widths = r) :
    Captured s hi lo pmax p r.1 r.2 := by
  induction fuel generalizing widths with
  | zero =>
    obtain rfl : (widths, false) = r := hr
    refine ⟨hchained, nofun, fun _ j hj => ?_⟩
    have hbounds : p + widths.sum < j ∧ j < s.wlen.toNat := lt_of_nextLow hj
    omega
  | succ fuel ih =>
    obtain ⟨q, hiq, hqn, hq, hnext⟩ := nextLow_waveRange hlt hend
    rw [captureLoop_succ hq hiq] at hr
    by_cases hlow : q < s.wlen.toNat
    · have hjq : NextLow s hi lo (p + widths.sum) q := (hnext q).mpr ⟨rfl, hlow⟩
      rw [if_pos hlow] at hr
      by_cases hfull : widths.length = pmax
      · rw [if_pos hfull] at hr
        subst hr
        exact ⟨hchained, fun _ => ⟨hfull, q, hjq⟩, nofun⟩
      · rw [if_neg hfull] at hr
        have hprogress := (lt_of_nextLow hjq).1
        have hsum : p + (widths ++ [q - (p + widths.sum)]).sum = q := by simp; omega
        exact ih (by omega) (by omega) (hchained.append hjq) (by rwa [hsum])
    · rw [if_neg hlow] at hr
      subst hr
      exact ⟨hchained, nofun, fun _ j hj => hlow ((hnext j).mp hj).2⟩

/-! ### The extremes (R90) -/

theorem mem_visibleWave {v : Int} :
    v ∈ s.visibleWave ↔ ∃ k, s.wbase.toNat ≤ k ∧ k < s.wlen.toNat ∧ s.waveAt k = v := by
  rw [State.visibleWave, State.waveRange_eq_map, List.mem_map]
  refine exists_congr fun k => ?_
  rw [List.mem_range'_1, and_assoc]
  exact and_congr_right fun hk => and_congr_left fun _ => by omega

theorem extremes_iff : Extremes s mx mn ↔ s.visibleWave.max? = some mx ∧ s.visibleWave.min? = some mn := by
  rw [List.max?_eq_some_iff, List.min?_eq_some_iff, mem_visibleWave, mem_visibleWave]
  constructor
  · rintro ⟨hmx, hmn, hbounds⟩
    refine ⟨⟨hmx, fun v hv => ?_⟩, hmn, fun v hv => ?_⟩
    · obtain ⟨k, hk, hkn, rfl⟩ := mem_visibleWave.mp hv
      exact (hbounds k hk hkn).2
    · obtain ⟨k, hk, hkn, rfl⟩ := mem_visibleWave.mp hv
      exact (hbounds k hk hkn).1
  · rintro ⟨⟨hmx, hle⟩, hmn, hge⟩
    refine ⟨hmx, hmn, fun k hk hkn => ?_⟩
    have hmem := mem_visibleWave.mpr ⟨k, hk, hkn, rfl⟩
    exact ⟨hge _ hmem, hle _ hmem⟩

theorem exists_extremes (h : s.wbase.toNat < s.wlen.toNat) : ∃ mx mn, Extremes s mx mn := by
  simp only [extremes_iff, State.visibleWave, waveRange_cons s h, List.max?_cons', List.min?_cons']
  exact ⟨_, _, rfl, rfl⟩

/-! ### What PULSES leaves (R92, R93) -/

theorem capture_of_empty (h : s.wlen.toNat ≤ s.wbase.toNat) :
    s.capture = (s.clearCapture, some .bufferTooShort) := by
  rw [State.capture, State.visibleWave, waveRange_eq_nil s h]

theorem capture_of_flat (h : Extremes s mx mn) (hflat : s.threshHi mx mn ≤ s.threshLo mx mn) :
    s.capture = ({ s.clearCapture with skip0 := s.wlen }, none) := by
  obtain ⟨hmax, hmin⟩ := extremes_iff.mp h
  cases hwave : s.visibleWave with
  | nil => simp [hwave] at hmax
  | cons w ws =>
    simp only [hwave, List.max?_cons', List.min?_cons', Option.some.injEq] at hmax hmin
    simp only [State.capture, hwave, hmax, hmin, if_pos hflat]

/-- The capture records widths from the first low sample after a high one on, or from WLEN, where it finds none. -/
theorem capture_of_edges (h : Extremes s mx mn) (hlt : s.threshLo mx mn < s.threshHi mx mn) :
    ∃ p widths truncated, s.capture = (s.clearCapture.withPulses p widths truncated, none) ∧
      (∀ j, NextLow s (s.threshHi mx mn) (s.threshLo mx mn) s.wbase.toNat j ↔ j = p ∧ p < s.wlen.toNat) ∧
      Captured s (s.threshHi mx mn) (s.threshLo mx mn) s.params.pmax p widths truncated ∧
      CapturedWidths s.params.pmax p s.wlen.toNat widths := by
  obtain ⟨hmax, hmin⟩ := extremes_iff.mp h
  have hne : s.visibleWave ≠ [] := fun hnil => by simp [hnil] at hmax
  have hbase : s.wbase.toNat ≤ s.wlen.toNat := by
    obtain ⟨⟨k, hk, hkn, -⟩, -⟩ := h
    omega
  obtain ⟨p, hbp, hpn, hfirst, hnext⟩ := nextLow_waveRange hlt hbase
  have hinside := captureLoop_inside hlt hne s.params.pmax s.visibleWave.length
  rw [← State.visibleWave] at hfirst
  rw [hfirst] at hinside
  refine ⟨p, _, _, ?_, hnext, captureLoop_captured (widths := []) (fuel := s.visibleWave.length) hlt hpn ?_
    (fun k hk => absurd hk (Nat.not_lt_zero k)) rfl, hinside⟩
  · obtain ⟨w, ws, hwave⟩ := List.exists_cons_of_ne_nil hne
    simp only [hwave, List.max?_cons', List.min?_cons', Option.some.injEq] at hmax hmin
    rw [hwave] at hfirst
    simp only [State.capture, hwave, hmax, hmin, if_neg (not_le.mpr hlt), hfirst]
    rfl
  · rw [State.visibleWave, State.length_waveRange, List.sum_nil]
    omega

theorem exec_pulses {r : Progress} (h : s.capture = r) :
    exec .pulses s = .next (r.conclude fun t => decide (0 < t.plen.toNat)) := by
  rw [← h]
  rfl

theorem CapturedWidths.length_lt {first : Nat} {n : Word} (h : CapturedWidths pmax first n.toNat widths) :
    widths.length < 2 ^ 32 := by
  obtain ⟨hwide, -, hinside⟩ := h
  have hle : widths.length ≤ widths.sum := by
    simpa using List.card_nsmul_le_sum widths 1 fun w hw => one_le_two.trans (hwide w hw)
  have := n.isLt
  omega

/-- MINW is the least width recorded, or 0 (R92). -/
theorem CapturedWidths.trackMin {first last : Nat} (h : CapturedWidths pmax first last widths) :
    if widths = [] then trackMin widths = 0 else trackMin widths ∈ widths ∧ ∀ w ∈ widths, trackMin widths ≤ w := by
  split
  · next hnil => rw [hnil]; rfl
  · next hne =>
    exact List.min?_eq_some_iff.mp (trackMin_eq_min? (fun w hw => Nat.zero_lt_two.trans_le (h.wide w hw)) hne)

theorem pulseAt_withPulses (s : State) (p : Nat) (widths : List Nat) (truncated : Bool) (k : Nat) :
    (s.withPulses p widths truncated).pulseAt k =
      if k < widths.length then toReg (widths.getD k 0) else s.pulseAt k := by
  rw [State.withPulses, State.pulseAt_writePulse]
  simp only [Nat.zero_le, true_and, Nat.zero_add, List.length_map, Nat.sub_zero]
  split
  · next hk => simp [hk]
  · rfl

/-- A capture that records nothing leaves PULSE as it was. -/
theorem withPulses_nil (s : State) : s.clearCapture.withPulses s.wlen.toNat [] false = noPulses s s.wlen := by
  have hpulse : Memory.write s.pulse 0 [] = s.pulse := by
    simpa [Memory.write, Memory.cells] using Memory.takeWhile_append_dropBelow s.pulse 0
  have hskip : toReg s.wlen.toNat = s.wlen := BitVec.ofNat_toNat ..
  simp only [State.withPulses, State.writePulse, List.map_nil, hskip]
  rw [show s.clearCapture.pulse = s.pulse from rfl, hpulse]
  rfl

/-- Settles O31: the three ends of the capture, and what its loop records. -/
theorem pulsesOutcome : Obligations.PulsesOutcome := by
  intro s
  refine ⟨fun hempty => exec_pulses (capture_of_empty hempty), fun mx mn hext => ?_⟩
  intro hi lo
  refine ⟨fun h => by simp only [hi, State.threshHi, h], fun h => by simp only [lo, State.threshLo, h],
    fun hflat => exec_pulses (capture_of_flat hext hflat), fun hlt hnone => ?_, fun hlt p hp => ?_⟩
  all_goals obtain ⟨q, widths, truncated, hcapture, hfirst, hcaptured, hwidths⟩ :=
    capture_of_edges hext hlt
  · have hend : s.wlen.toNat ≤ q := not_lt.mp fun hlt => hnone q ((hfirst q).mpr ⟨rfl, hlt⟩)
    obtain ⟨rfl, rfl⟩ := hcaptured.nothing hend
    obtain rfl : q = s.wlen.toNat := le_antisymm hwidths.inside hend
    rw [exec_pulses hcapture, Progress.conclude_none, withPulses_nil]
    rfl
  · obtain ⟨rfl, -⟩ := (hfirst p).mp hp
    obtain ⟨hchained, hfull, hended⟩ := hcaptured
    refine ⟨widths, truncated, trackMin widths,
      (s.clearCapture.withPulses p widths truncated).done (decide (0 < widths.length)), hwidths.count, hchained, ?_⟩
    simp only [List.take_length]
    refine ⟨hfull, hended, hwidths.trackMin, ?_, rfl, pulseAt_withPulses s.clearCapture p widths truncated⟩
    have hplen : (s.clearCapture.withPulses p widths truncated).plen.toNat = widths.length :=
      toNat_toReg_of_lt hwidths.length_lt
    rw [exec_pulses hcapture, Progress.conclude_none, hplen]

/-! ### The pulses recorded (R23, R92) -/

theorem State.PulsesOk.of_no_pulse (hplen : s.plen = 0) (hminw : s.minw = 0) (hskip : s.skip0.toNat ≤ s.params.wmax) :
    s.PulsesOk := by
  have hplen' : s.plen.toNat = 0 := congrArg BitVec.toNat hplen
  refine ⟨fun i hi => ?_, fun hne => absurd hplen' hne, fun _ => hminw, ?_⟩
  · omega
  · rwa [hplen']

/-- `s` with WAVE no larger than its waveform, so that the bound of `PulsesOk` is WLEN. -/
def cutToWaveform (s : State) : State := { s with params := { s.params with wmax := s.wlen.toNat } }

theorem capture_pulsesOk (s : State) : (cutToWaveform s.capture.1).PulsesOk := by
  rcases Nat.lt_or_ge s.wbase.toNat s.wlen.toNat with hvisible | hempty
  · obtain ⟨mx, mn, hext⟩ := exists_extremes hvisible
    rcases le_or_gt (s.threshHi mx mn) (s.threshLo mx mn) with hflat | hlt
    · rw [capture_of_flat hext hflat]
      exact .of_no_pulse rfl rfl le_rfl
    · obtain ⟨p, widths, truncated, hcapture, -, -, hwidths⟩ := capture_of_edges hext hlt
      rw [hcapture]
      exact State.PulsesOk.withPulses (s := cutToWaveform s.clearCapture) s.wlen.isLt truncated hwidths le_rfl
  · rw [capture_of_empty hempty]
    exact .of_no_pulse rfl rfl (Nat.zero_le _)

/-- Settles O32: the end of the command changes STATUS alone, and what the capture leaves meets `PulsesOk` with WLEN as
its bound. -/
theorem recordedPulsesLieInsideTheWaveform : Obligations.RecordedPulsesLieInsideTheWaveform := by
  intro s t h
  have hok : (cutToWaveform t).PulsesOk := by
    cases h
    rcases s.capture.conclude_cases fun t => decide (0 < t.plen.toNat) with ⟨k, -, he⟩ | ⟨-, he⟩
    · rw [he]
      exact (capture_pulsesOk s).of_eq rfl rfl rfl rfl rfl rfl
    · rw [he]
      exact (capture_pulsesOk s).of_eq rfl rfl rfl rfl rfl rfl
  obtain ⟨recorded, least, none_recorded, inside⟩ := hok
  have hwide : ∀ k, k < t.plen.toNat → 2 ≤ width t k ∧ t.minw.toNat ≤ width t k := fun k hk => by
    obtain ⟨w, hread, hw⟩ := recorded k hk
    have hpulse : t.pulseAt k = w := congrArg (Option.getD · _) hread
    rwa [width, hpulse]
  refine ⟨hwide, ⟨fun hmin => ?_, fun hplen => none_recorded (congrArg BitVec.toNat hplen)⟩, ?_⟩
  · by_contra hne
    obtain ⟨k, hk, hmink⟩ := least fun h0 => hne (BitVec.eq_of_toNat_eq h0)
    have hpulse : t.pulseAt k = 0 := hmink.trans hmin
    have htwo : 2 ≤ (t.pulseAt k).toNat := (hwide k hk).1
    rw [hpulse] at htwo
    exact absurd htwo (by decide)
  · rw [← State.pos_eq_position]
    exact inside

end Sys2Proof.Machine
end

section
/-! SUPPORT. The clock (41_clock_window.md R94 to R97): what CLKSEL chooses in each case, and the acceptance windows. -/
namespace Sys2Proof.Machine
open Sys2Proof.Claims

variable {s : State} {T m p clk : Nat}

theorem inWindow_iff_accepts : inWindow T m p = true ↔ Accepts T m p := by
  simp only [inWindow, Accepts, Bool.and_eq_true, decide_eq_true_eq, Nat.sub_le_iff_le_add]

/-- In a rising list the search finds the least element that passes. -/
theorem find?_eq_some_of_least {l : List Nat} {f : Nat → Bool} (hrising : l.Pairwise (· < ·)) (hmem : p ∈ l)
    (hp : f p = true) (hleast : ∀ q ∈ l, q < p → ¬ f q = true) : l.find? f = some p := by
  induction l with
  | nil => cases hmem
  | cons a l ih =>
    obtain ⟨ha, hl⟩ := List.pairwise_cons.mp hrising
    obtain ⟨hla, hll⟩ := List.forall_mem_cons.mp hleast
    rcases List.mem_cons.mp hmem with rfl | hmem
    · exact List.find?_cons_of_pos hp
    · rw [List.find?_cons_of_neg (hla (ha p hmem)), ih hl hmem hll]

theorem searchClock_eq_some (hmem : p ∈ candidates) (hp : Accepts T m p)
    (hleast : ∀ q ∈ candidates, q < p → ¬ Accepts T m q) : searchClock T m = some p :=
  find?_eq_some_of_least (by decide) hmem (inWindow_iff_accepts.mpr hp)
    fun q hq hlt => inWindow_iff_accepts.not.mpr (hleast q hq hlt)

theorem searchClock_eq_none (h : ∀ p ∈ candidates, ¬ Accepts T m p) : searchClock T m = none :=
  List.find?_eq_none.mpr fun p hp => inWindow_iff_accepts.not.mpr (h p hp)

/-- CLK <- 0; TOL <- 0 (R94). -/
def State.clearClock (s : State) : State := { s with clk := 0, tol := 0 }

theorem chooseClock_of_no_divisor (hT : s.cfg.toldiv = 0) :
    s.chooseClock clk = (s.clearClock, some .invalidArgument) := if_pos hT

theorem chooseClock_of_not_candidate (hT : s.cfg.toldiv ≠ 0) (hclk : clk ≠ 0) (hmem : clk ∉ candidates) :
    s.chooseClock clk = (s.clearClock, some .invalidArgument) :=
  (if_neg hT).trans ((if_pos hclk).trans (if_neg hmem))

theorem chooseClock_of_candidate (hT : s.cfg.toldiv ≠ 0) (hmem : clk ∈ candidates) :
    s.chooseClock clk = (s.setClock clk, none) :=
  have hclk : clk ≠ 0 := fun h0 => absurd (h0 ▸ hmem) (by decide)
  (if_neg hT).trans ((if_pos hclk).trans (if_pos hmem))

theorem chooseClock_of_no_pulse (hT : s.cfg.toldiv ≠ 0) (hplen : s.plen = 0) :
    s.chooseClock 0 = (s.clearClock, some .noClockFound) :=
  (if_neg hT).trans (if_pos hplen)

theorem chooseClock_of_search (hT : s.cfg.toldiv ≠ 0) (hplen : s.plen ≠ 0) :
    s.chooseClock 0 =
      (searchClock s.cfg.toldiv.toNat s.minw.toNat).elim (s.clearClock, some .noClockFound)
        fun p => (s.setClock p, none) := by
  refine ((if_neg hT).trans (if_neg hplen)).trans ?_
  cases searchClock s.cfg.toldiv.toNat s.minw.toNat <;> rfl

theorem exec_clksel {r : Progress} (h : s.chooseClock clk = r) :
    exec (.clksel clk) s = .next (r.conclude fun _ => true) := by
  rw [← h]
  rfl

/-- Settles O33: the branches in the order of R94, the search by what it finds. -/
theorem clkselOutcome : Obligations.ClkselOutcome := by
  intro s clk T m none chosen
  have hdivisor : s.cfg.toldiv = 0 ↔ T = 0 := BitVec.toNat_inj.symm
  refine ⟨fun hT => ?_, fun hT hclk hmem => ?_, fun hT hmem => ?_, fun hT hplen => ?_, fun hT hplen hnot => ?_,
    fun p hmem hT hplen haccepts hleast => ?_⟩
  · exact exec_clksel (chooseClock_of_no_divisor (hdivisor.mpr hT))
  · exact exec_clksel (chooseClock_of_not_candidate (hdivisor.not.mpr hT) hclk hmem)
  · exact exec_clksel (chooseClock_of_candidate (hdivisor.not.mpr hT) hmem)
  · exact exec_clksel (chooseClock_of_no_pulse (hdivisor.not.mpr hT) hplen)
  · rw [exec_clksel (chooseClock_of_search (hdivisor.not.mpr hT) hplen), searchClock_eq_none hnot]
    rfl
  · rw [exec_clksel (chooseClock_of_search (hdivisor.not.mpr hT) hplen), searchClock_eq_some hmem haccepts hleast]
    rfl

/-- The search tries the candidates one after another (R94, R96). -/
theorem find?_inWindow_cons (T m p : Nat) (ps : List Nat) :
    (p :: ps).find? (inWindow T m) = if p - p / T ≤ m ∧ m ≤ p + 1 then some p else ps.find? (inWindow T m) := by
  have hwindow : inWindow T m p = true ↔ p - p / T ≤ m ∧ m ≤ p + 1 := by simp [inWindow]
  split
  · next h => exact List.find?_cons_of_pos (hwindow.mpr h)
  · next h => exact List.find?_cons_of_neg (hwindow.not.mpr h)

/-- What CLKSEL 0 leaves in CLK and TOL when a pulse is recorded (R94). -/
theorem clksel_search_result (hT : s.cfg.toldiv ≠ 0) (hplen : s.plen ≠ 0) :
    ∃ t, exec (.clksel 0) s = .next t ∧ (t.clk.toNat, t.tol.toNat) =
      (searchClock s.cfg.toldiv.toNat s.minw.toNat).elim (0, 0) fun p => (p, p / s.cfg.toldiv.toNat) := by
  refine ⟨_, exec_clksel (chooseClock_of_search hT hplen), ?_⟩
  cases hfound : searchClock s.cfg.toldiv.toNat s.minw.toNat with
  | none => rfl
  | some p =>
    have hp : p < 2 ^ 32 := by
      have hle : p ≤ 128 := (by decide : ∀ p ∈ candidates, p ≤ 128) p (List.mem_of_find?_eq_some hfound)
      omega
    exact Prod.ext (toNat_toReg_of_lt hp) (toNat_toReg_of_lt ((Nat.div_le_self _ _).trans_lt hp))

/-- Settles O34: with divisor 8 the windows the search tries are the rows of the table. -/
theorem acceptanceWindowsOfTheResetTolerance : Obligations.AcceptanceWindowsOfTheResetTolerance := by
  intro s hT hplen
  obtain ⟨t, hexec, hresult⟩ := clksel_search_result (s := s) (by rw [hT]; decide) hplen
  have hdivisor : s.cfg.toldiv.toNat = 8 := by rw [hT]; rfl
  refine ⟨t, hexec, hresult.trans ?_⟩
  rw [hdivisor, searchClock, candidates]
  simp only [find?_inWindow_cons, List.find?_nil, apply_ite (Option.elim · (0, 0) fun p => (p, p / 8))]
  rfl

/-- A larger divisor narrows the window. -/
theorem inWindow_of_le {T' : Nat} (hT : T ≠ 0) (hle : T ≤ T') (h : inWindow T' m p = true) :
    inWindow T m p = true := by
  rw [inWindow_iff_accepts] at h ⊢
  obtain ⟨hlow, hhigh⟩ := h
  exact ⟨hlow.trans (Nat.add_le_add_left (Nat.div_le_div_left hle (Nat.pos_of_ne_zero hT)) m), hhigh⟩

/-- Settles O35: the windows for divisor 6 are apart and larger divisors narrow them; up to divisor 5 the windows of 32
and 40 both hold 33. -/
theorem windowsAreDisjointFromDivisorSix : Obligations.WindowsAreDisjointFromDivisorSix := by
  intro T hT
  constructor
  · intro hdisjoint
    by_contra hsmall
    have hboth : inWindow 5 33 32 = true ∧ inWindow 5 33 40 = true := by decide
    exact hdisjoint 32 (by decide) 40 (by decide) (by decide) 33
      ⟨inWindow_of_le hT (by omega) hboth.1, inWindow_of_le hT (by omega) hboth.2⟩
  · intro hsix p hp q hq hne m ⟨hmp, hmq⟩
    have hapart : ∀ p ∈ candidates, ∀ q ∈ candidates, p ≠ q → p + 1 + q / 6 < q ∨ q + 1 + p / 6 < p := by decide
    obtain ⟨hlowp, hhighp⟩ := inWindow_iff_accepts.mp (inWindow_of_le (by decide) hsix hmp)
    obtain ⟨hlowq, hhighq⟩ := inWindow_iff_accepts.mp (inWindow_of_le (by decide) hsix hmq)
    have := hapart p hp q hq hne
    omega

end Sys2Proof.Machine
end

section
/-! SUPPORT. The listen-window markers (41_clock_window.md R98 to R103): the scan finds the lowest one, and LWSYNC is
PULSES, CLKSEL and two scans. -/
namespace Sys2Proof.Machine
open Sys2Proof.Claims

variable {s : State} {start i j : Nat} {k : ErrKind}

/-! ### The scan (R98 to R100) -/

theorem matchWidths_iff_match4 (s : State) (i : Nat) :
    matchWidths s.clk.toNat s.tol.toNat (width s i) (width s (i + 1)) (width s (i + 2)) (width s (i + 3)) = true ↔
      Match4 s i := by
  simp only [matchWidths, Match4, Bool.and_eq_true, decide_eq_true_eq, and_assoc]

/-- The scan without a place for four pulses. -/
theorem findMarker_of_short (h : s.plen.toNat ≤ start + 3) : s.findMarker start = none := by
  cases hfound : s.findMarker start with
  | none => rfl
  | some i =>
    have hbounds := scanWidths_bounds hfound
    rw [State.length_pulseRange] at hbounds
    omega

theorem pulseRange_cons (s : State) {i n : Nat} (h : i < n) :
    s.pulseRange i n = s.pulseAt i :: s.pulseRange (i + 1) n := by
  rw [State.pulseRange_eq_map, State.pulseRange_eq_map, map_range'_cons _ h]

/-- One turn of the scan (R100). -/
theorem findMarker_of_fits (h : start + 3 < s.plen.toNat) :
    (Match4 s start → s.findMarker start = some start) ∧
      (¬ Match4 s start → s.findMarker start = s.findMarker (start + 1)) := by
  rw [← matchWidths_iff_match4, State.findMarker, State.findMarker, pulseRange_cons s (by omega : start < _),
    pulseRange_cons s (by omega : start + 1 < _), pulseRange_cons s (by omega : start + 2 < _),
    pulseRange_cons s (by omega : start + 3 < _)]
  exact ⟨fun hmatch => if_pos hmatch, fun hmatch => if_neg hmatch⟩

theorem findMarker_eq_none {start : Nat} (h : NoMarker s start) : s.findMarker start = none := by
  by_cases hfits : start + 3 < s.plen.toNat
  · rw [(findMarker_of_fits hfits).2 (h start le_rfl hfits)]
    exact findMarker_eq_none fun i hi => h i (by omega)
  · exact findMarker_of_short (by omega)
termination_by s.plen.toNat - start

theorem findMarker_eq_some (h : LowestMarker s start i) : s.findMarker start = some i := by
  obtain ⟨hle, hfits, hmatch, hlowest⟩ := h
  induction hle using Nat.decreasingInduction with
  | self => exact (findMarker_of_fits hfits).1 hmatch
  | of_succ k hk ih =>
    rw [(findMarker_of_fits (by omega)).2 (hlowest k le_rfl hk)]
    exact ih fun j hj => hlowest j (by omega)

/-- The clamp of R99 is the subtraction of the model. -/
theorem phaseAt_eq_phase (s : State) (i : Nat) : s.phaseAt i = phase s i := by
  unfold State.phaseAt phase width
  split <;> omega

/-- Settles O36: the branches of R100, the scan by what stands from PIDX on. -/
theorem lwfindOutcome : Obligations.LwfindOutcome := by
  intro s cleared
  refine ⟨fun hclk => if_pos hclk, fun hclk hnone => ?_, fun i hclk hlowest => ?_⟩
  · simp only [exec, execLwfind, if_neg hclk, findMarker_eq_none hnone]
    rfl
  · simp only [exec, execLwfind, if_neg hclk, findMarker_eq_some hlowest, phaseAt_eq_phase, State.pos_eq_position]
    rfl

/-! ### LWSYNC (R103) -/

theorem capture_error (h : s.capture.2 = some k) : k = .bufferTooShort := by
  unfold State.capture at h
  split at h
  · cases h; rfl
  · simp only at h
    split at h <;> cases h

/-- CLKSEL fails with an error kind or takes a clock, and reads nothing of STATUS: it does the same after `done(p)`. -/
theorem chooseClock_cases (s : State) (p : Bool) (clk : Nat) :
    (∃ k, k ≠ .none ∧ s.chooseClock clk = (s.clearClock, some k) ∧
      (s.done p).chooseClock clk = ((s.done p).clearClock, some k)) ∨
    ∃ c, s.chooseClock clk = (s.setClock c, none) ∧ (s.done p).chooseClock clk = ((s.done p).setClock c, none) := by
  by_cases hT : s.cfg.toldiv = 0
  · exact .inl ⟨_, by decide, chooseClock_of_no_divisor hT, chooseClock_of_no_divisor hT⟩
  by_cases hclk : clk = 0
  · subst hclk
    by_cases hplen : s.plen = 0
    · exact .inl ⟨_, by decide, chooseClock_of_no_pulse hT hplen, chooseClock_of_no_pulse hT hplen⟩
    have hsearch := chooseClock_of_search hT hplen
    have hsearch_done := chooseClock_of_search (s := s.done p) hT hplen
    rw [State.done_cfg, State.done_minw] at hsearch_done
    cases hfound : searchClock s.cfg.toldiv.toNat s.minw.toNat with
    | none =>
      rw [hfound] at hsearch hsearch_done
      exact .inl ⟨_, by decide, hsearch, hsearch_done⟩
    | some c =>
      rw [hfound] at hsearch hsearch_done
      exact .inr ⟨c, hsearch, hsearch_done⟩
  · by_cases hmem : clk ∈ candidates
    · exact .inr ⟨clk, chooseClock_of_candidate hT hmem, chooseClock_of_candidate hT hmem⟩
    · exact .inl ⟨_, by decide, chooseClock_of_not_candidate hT hclk hmem,
        chooseClock_of_not_candidate hT hclk hmem⟩

theorem syncMarkers_of_no_marker (h : NoMarker s 0) : s.syncMarkers = (s, some .noSyncPattern) := by
  unfold State.syncMarkers
  rw [findMarker_eq_none h]

theorem syncMarkers_of_first (hfirst : LowestMarker s 0 i) (hlast : NoMarker s (i + 4)) :
    s.syncMarkers =
      ({ s with m1idx := toReg i, m1ph := toReg (phase s i), pidx := toReg (i + 4) }, none) := by
  unfold State.syncMarkers
  rw [findMarker_eq_some hfirst]
  simp only [findMarker_eq_none hlast, phaseAt_eq_phase]

theorem syncMarkers_of_both (hfirst : LowestMarker s 0 i) (hlast : LowestMarker s (i + 4) j) :
    s.syncMarkers =
      (({ s with
          m1idx := toReg i, m1ph := toReg (phase s i), m2idx := toReg j, pidx := toReg (j + 4) }).setComplete true,
        none) := by
  unfold State.syncMarkers
  rw [findMarker_eq_some hfirst]
  simp only [findMarker_eq_some hlast, phaseAt_eq_phase]

/-- Settles O37: what PULSES and CLKSEL leave when run as commands differs from what they leave as parts of LWSYNC in
ERR and PASS alone, which no later part reads and every end overwrites. -/
theorem lwsyncOutcome : Obligations.LwsyncOutcome := by
  intro s clk
  refine ⟨(s.setComplete false).capture.conclude fun t => decide (0 < t.plen.toNat), rfl, ?_⟩
  have hsync : exec (.lwsync clk) s = .next ((((s.setComplete false).capture.andThen
      fun t => t.chooseClock clk).andThen State.syncMarkers).conclude fun _ => true) := rfl
  rw [hsync]
  rcases hpulses : (s.setComplete false).capture with ⟨t, _ | k⟩
  case some =>
    have hk : k = .bufferTooShort := capture_error (congrArg Prod.snd hpulses)
    exact ⟨fun _ => rfl, fun hnone => absurd (hk.symm.trans hnone) (by decide)⟩
  rw [Progress.conclude_none, Progress.andThen_none]
  refine ⟨fun herr => absurd rfl herr, fun _ => ?_⟩
  rcases chooseClock_cases t (decide (0 < t.plen.toNat)) clk with ⟨k, hk, hclock, hclksel⟩ | ⟨c, hclock, hclksel⟩
  · rw [hclock]
    exact ⟨_, exec_clksel hclksel, fun _ => rfl, fun hnone => absurd hnone hk, fun _ hnone => absurd hnone hk⟩
  rw [hclock, Progress.andThen_none]
  refine ⟨_, exec_clksel hclksel, fun herr => absurd rfl herr, fun _ hnone => ?_,
    fun i _ hfirst => ⟨fun hlast => ?_, fun j hlast => ?_⟩⟩
  · rw [syncMarkers_of_no_marker (s := t.setClock c) hnone]
    rfl
  · rw [syncMarkers_of_first (s := t.setClock c) hfirst hlast]
    rfl
  · rw [syncMarkers_of_both (s := t.setClock c) hfirst hlast]
    rfl

end Sys2Proof.Machine
end

section
/-! SUPPORT. X50CODE and the block's verdict (42_em4x50_block.md R110, R118): words packed bit by bit, and both parity
tests on 45 bits. -/
namespace Sys2Proof.Machine
open Sys2Proof.Claims

variable {s : State} {bs : List Bool} {bit : Nat → Bool} {n m : Nat}

/-! ### Words packed from bits (20_memory.md R43) -/

theorem sumTo_succ (n : Nat) (f : Nat → Nat) : sumTo (n + 1) f = sumTo n f + f n := by
  simp [sumTo, List.range_succ]

/-- Bits at distinct positions do not carry into each other: a bit of their sum is set when one of them stands there. -/
theorem getLsbD_sumTo_bitAtPos {p : Nat → Nat} (hp : ∀ i < n, ∀ j < i, p i ≠ p j) (hm : m < 32) :
    (toReg (sumTo n fun i => bitAtPos (bit i) (p i))).getLsbD m = true ↔ ∃ i < n, p i = m ∧ bit i = true := by
  induction n generalizing m with
  | zero => simp [sumTo, toReg]
  | succ n ih =>
    have hp' : ∀ i < n, ∀ j < i, p i ≠ p j := fun i hi => hp i (by omega)
    have hlast (k : Nat) (hk : k < 32) :
        (toReg (bitAtPos (bit n) (p n))).getLsbD k = true ↔ p n = k ∧ bit n = true := by
      rw [toReg, BitVec.getLsbD_ofNat, decide_eq_true hk, Bool.true_and]
      cases bit n <;> simp [bitAtPos, Nat.testBit_two_pow]
    have hdisjoint : toReg (sumTo n fun i => bitAtPos (bit i) (p i)) &&& toReg (bitAtPos (bit n) (p n)) = 0#32 := by
      refine BitVec.eq_of_getLsbD_eq fun k hk => ?_
      rw [BitVec.getLsbD_and, BitVec.getLsbD_zero, ← Bool.not_eq_true, Bool.and_eq_true, ih hp' hk, hlast k hk]
      rintro ⟨⟨i, hi, hik, -⟩, hnk, -⟩
      exact hp n (Nat.lt_succ_self n) i hi (hnk.trans hik.symm)
    have hsum : toReg (sumTo (n + 1) fun i => bitAtPos (bit i) (p i)) =
        toReg (sumTo n fun i => bitAtPos (bit i) (p i)) ||| toReg (bitAtPos (bit n) (p n)) := by
      rw [← BitVec.add_eq_or_of_and_eq_zero _ _ hdisjoint, sumTo_succ]
      exact BitVec.ofNat_add _ _
    rw [hsum, BitVec.getLsbD_or, Bool.or_eq_true, ih hp' hm, hlast m hm, Nat.exists_lt_succ_right]

/-- Bit `i` of 32 put at position `31 - i` is read back there. -/
theorem getLsbD_msbFirst (bit : Nat → Bool) {i : Nat} (hi : i < 32) :
    (toReg (sumTo 32 fun j => bitAtPos (bit j) (31 - j))).getLsbD (31 - i) = bit i := by
  have hset := getLsbD_sumTo_bitAtPos (bit := bit) (n := 32) (m := 31 - i) (p := fun j => 31 - j)
    (fun i hi j hj => by omega) (by omega)
  rw [Bool.eq_iff_iff, hset]
  refine ⟨fun ⟨j, hj, hji, hbit⟩ => ?_, fun hbit => ⟨i, hi, rfl, hbit⟩⟩
  rwa [show i = j by omega]

theorem sumTo_add (n m : Nat) (f : Nat → Nat) : sumTo (n + m) f = sumTo n f + sumTo m fun i => f (n + i) := by
  induction m with
  | zero => rfl
  | succ m ih => rw [← Nat.add_assoc, sumTo_succ, sumTo_succ, ih, Nat.add_assoc]

theorem sumTo_congr {f g : Nat → Nat} (h : ∀ i < n, f i = g i) : sumTo n f = sumTo n g := by
  induction n with
  | zero => rfl
  | succ n ih => rw [sumTo_succ, sumTo_succ, ih fun i hi => h i (by omega), h n (by omega)]

/-- A sum over rows and columns as one sum. -/
theorem sumTo_rows (rows cols : Nat) (f : Nat → Nat → Nat) :
    sumTo rows (fun r => sumTo cols (f r)) = sumTo (rows * cols) fun i => f (i / cols) (i % cols) := by
  induction rows with
  | zero => rw [Nat.zero_mul]; rfl
  | succ rows ih =>
    rw [sumTo_succ, ih, Nat.succ_mul, sumTo_add]
    refine congrArg _ (sumTo_congr fun i hi => ?_)
    rw [Nat.mul_comm rows, Nat.mul_add_div (by omega), Nat.mul_add_mod, Nat.div_eq_of_lt hi, Nat.mod_eq_of_lt hi]
    rfl

/-- The code's 32 bits in the order of the row (R118). -/
theorem code50_eq_msbFirst (bs : List Bool) :
    code50 bs = toReg (sumTo 32 fun i => bitAtPos (bitOf bs (9 * (i / 8) + i % 8)) (31 - i)) := by
  rw [code50, sumTo_rows]
  refine congrArg toReg (sumTo_congr fun i hi => ?_)
  rw [show 31 - 8 * (i / 8) - i % 8 = 31 - i by omega]

theorem isCode50_code50 (hbits : ∀ i < 45, bitOf bs i = bit i) : IsCode50 (code50 bs) bit := by
  intro r k hr hk
  rw [code50_eq_msbFirst, show 31 - 8 * r - k = 31 - (8 * r + k) by omega, getLsbD_msbFirst _ (by omega),
    show (8 * r + k) / 8 = r by omega, show (8 * r + k) % 8 = k by omega]
  exact hbits _ (by omega)

theorem bitOf_take {i : Nat} (h : i < n) : bitOf (bs.take n) i = bitOf bs i := by
  simp [bitOf, List.getD_eq_getElem?_getD, List.getElem?_take_of_lt h]

/-- Settles O42: the code is packed from the first 45 bits the command sees, which are those from BOFF. -/
theorem x50codeOutcome : Obligations.X50codeOutcome := by
  intro s
  have hlen := s.length_visibleBits
  refine ⟨fun hshort => ?_, fun hfit => ⟨code50 (s.visibleBits.take blockBits), ?_, ?_⟩⟩
  · have hcond : s.bitsMissing = true ∨ s.visibleBits.length < blockBits := .inr (by unfold blockBits; omega)
    exact if_pos hcond
  · have hcond : ¬ (s.bitsMissing = true ∨ s.visibleBits.length < blockBits) := by
      simp only [State.bitsMissing, blockBits, decide_eq_true_eq]
      omega
    exact if_neg hcond
  · refine isCode50_code50 fun i hi => ?_
    rw [bitOf_take (n := blockBits) hi, s.bitOf_visibleBits (by omega)]

/-! ### The verdict on a block (R86, R110) -/

theorem blockValid_iff (hfit : 45 ≤ bs.length) (hbits : ∀ i < 45, bitOf bs i = bit i) :
    blockValid bs 5 9 = true ↔ BlockPasses bit := by
  rw [blockValid, Bool.and_eq_true, beq_iff_eq, beq_iff_eq, rowParityTest_eq_holds_iff hfit hbits,
    colParityTest_eq_holds_iff hfit hbits, BlockPasses]

end Sys2Proof.Machine
end

section
/-! SUPPORT. X50READ's synchronisation and one turn of its block loop (42_em4x50_block.md R111 to R117). -/
namespace Sys2Proof.Machine
open Sys2Proof.Claims

variable {s u v : State} {bs : List Bool} {n b m j start clk : Nat} {k : ErrKind}

/-! ### The markers -/

theorem lowestMarker_or_noMarker (s : State) (start : Nat) : (∃ j, LowestMarker s start j) ∨ NoMarker s start := by
  classical
  by_cases hfound : ∃ i, start ≤ i ∧ i + 3 < s.plen.toNat ∧ Match4 s i
  · obtain ⟨hle, hfits, hmatch⟩ := Nat.find_spec hfound
    exact .inl ⟨_, hle, hfits, hmatch, fun i hi hlt hat => Nat.find_min hfound hlt ⟨hi, by omega, hat⟩⟩
  · exact .inr fun i hi hfits hmatch => hfound ⟨i, hi, hfits, hmatch⟩

theorem noMarker_of_findMarker (h : s.findMarker start = none) : NoMarker s start := by
  rcases lowestMarker_or_noMarker s start with ⟨i, hi⟩ | hnone
  · cases (findMarker_eq_some hi).symm.trans h
  · exact hnone

/-! ### What the synchronisation leaves (R103, R112) -/

theorem capture_errSeen (s : State) : s.capture.1.status.errSeen = s.status.errSeen := by
  unfold State.capture
  split
  · rfl
  · simp only
    split <;> rfl

/-- Neither end of CLKSEL's part changes STATUS. -/
theorem chooseClock_errSeen (s : State) (clk : Nat) : (s.chooseClock clk).1.status.errSeen = s.status.errSeen := by
  rcases chooseClock_cases s true clk with ⟨k, -, h, -⟩ | ⟨c, h, -⟩
  · rw [h]; rfl
  · rw [h]; rfl

/-- A missing first marker is the only error of the scans. -/
theorem syncMarkers_error (h : v.syncMarkers = (u, some k)) : k = .noSyncPattern := by
  unfold State.syncMarkers at h
  split at h
  · cases h; rfl
  · simp only at h
    split at h <;> cases h

/-- LWSYNC ends with an error kind, or reaches the two scans with ERRSEEN as it was. -/
theorem sync_cases (s : State) (clk : Nat) :
    (∃ u k, k ≠ .none ∧ s.sync clk = (u, some k)) ∨
      ∃ v u : State, s.sync clk = (u, none) ∧ v.syncMarkers = (u, none) ∧ v.status.errSeen = s.status.errSeen := by
  unfold State.sync
  rcases hpulses : (s.setComplete false).capture with ⟨t, _ | k⟩
  case some => exact .inl ⟨t, k, by rw [capture_error (congrArg Prod.snd hpulses)]; decide, rfl⟩
  rw [Progress.andThen_none]
  rcases hclock : t.chooseClock clk with ⟨v, _ | k⟩
  case some =>
    rcases chooseClock_cases t true clk with ⟨k', hk, h, -⟩ | ⟨c, h, -⟩
    · cases hclock.symm.trans h
      exact .inl ⟨_, k, hk, rfl⟩
    · cases hclock.symm.trans h
  rw [Progress.andThen_none]
  have hseen : v.status.errSeen = s.status.errSeen := by
    have hv := chooseClock_errSeen t clk
    have ht := capture_errSeen (s.setComplete false)
    rw [hclock] at hv
    rw [hpulses] at ht
    exact hv.trans ht
  rcases hmarkers : v.syncMarkers with ⟨u, _ | k⟩
  · exact .inr ⟨v, u, rfl, hmarkers, hseen⟩
  · exact .inl ⟨u, k, by rw [syncMarkers_error hmarkers]; decide, rfl⟩

/-- What a synchronisation without an error leaves for the block loop, when X50READ began in `s`: the first marker's
registers, COMPLETE for whether there is a second one, and what LWSYNC does not write (R103, R112). -/
structure ReadyForBlocks (s u : State) : Prop where
  firstPhase : u.m1ph.toNat = phase u u.m1idx.toNat
  incomplete : u.status.complete = false → NoMarker u (u.m1idx.toNat + 4)
  errSeen : u.status.errSeen = s.status.errSeen
  nblk : u.nblk = 0
  blkpf : u.blkpf = 0
  allPar : u.status.allPar = true
  blk : u.blk = s.blk
  wbase : u.wbase = s.wbase
  blen : u.blen = s.blen
  boff : u.boff = s.boff
  bitAt : u.bitAt = s.bitAt
  calls : u.calls = s.calls
  demodIn : u.demodIn = s.demodIn

theorem toNat_toReg_marker (h : s.findMarker start = some j) : (toReg j).toNat = j := by
  have := findMarker_lt h
  exact toNat_toReg_of_lt (by omega)

theorem toNat_toReg_phase (s : State) (i : Nat) : (toReg (s.phaseAt i)).toNat = phase s i := by
  rw [← phaseAt_eq_phase]
  exact toNat_toReg_of_lt (lt_of_le_of_lt (Nat.sub_le _ _) (s.pulseAt (i + 3)).isLt)

theorem syncMarkers_registers (h : v.syncMarkers = (u, none)) :
    u.m1ph.toNat = phase u u.m1idx.toNat ∧ (u.status.complete = false → NoMarker u (u.m1idx.toNat + 4)) ∧
      u.status.errSeen = v.status.errSeen := by
  unfold State.syncMarkers at h
  split at h
  · cases h
  next first hfirst =>
    have hindex := toNat_toReg_marker hfirst
    have hphase := toNat_toReg_phase v first
    simp only at h
    split at h
    · next hlast =>
      cases h
      simp only [hindex]
      exact ⟨hphase, fun _ => noMarker_of_findMarker hlast, trivial⟩
    · cases h
      simp only [State.setComplete, hindex]
      exact ⟨hphase, nofun, trivial⟩

/-- X50READ ends as its LWSYNC does, with that command's error, or goes on to the blocks. -/
theorem x50read_cases (s : State) (clk : Nat) :
    (∃ a, exec (.lwsync clk) (x50Cleared s) = .next a ∧ a.status.err ≠ .none ∧ a.nblk = 0 ∧
      exec (.x50read clk) s = .next a) ∨
    ∃ u, exec (.lwsync clk) (x50Cleared s) = .next (u.done true) ∧ ReadyForBlocks s u ∧
      exec (.x50read clk) s = .next
        ((State.readBlocks 6 0 u.m1idx.toNat (phase u u.m1idx.toNat) (u.m1idx.toNat + 4) u).conclude
          fun t => decide (1 ≤ t.nblk.toNat)) := by
  have hwrites := State.sync_writes s.clearBlocks clk
  have hlwsync : exec (.lwsync clk) (x50Cleared s) = .next ((s.clearBlocks.sync clk).conclude fun _ => true) := rfl
  have hx50read : exec (.x50read clk) s = .next (((s.clearBlocks.sync clk).andThen fun t =>
      State.readBlocks maxBlocks 0 t.m1idx.toNat t.m1ph.toNat (t.m1idx.toNat + 4) t).conclude
        fun t => decide (1 ≤ t.nblk.toNat)) := rfl
  rw [hlwsync, hx50read]
  rcases sync_cases s.clearBlocks clk with ⟨u, k, hk, hsync⟩ | ⟨v, u, hsync, hmarkers, hseen⟩
  · rw [hsync] at hwrites ⊢
    exact .inl ⟨_, rfl, hk, congrArg State.nblk hwrites.only, rfl⟩
  · obtain ⟨hphase, hincomplete, herrSeen⟩ := syncMarkers_registers hmarkers
    have honly : u = written (.lwsync clk) s.clearBlocks u := by
      rw [hsync] at hwrites
      exact hwrites.only
    rw [hsync, Progress.andThen_none, hphase]
    exact .inr ⟨u, rfl,
      { firstPhase := hphase
        incomplete := hincomplete
        errSeen := herrSeen.trans hseen
        nblk := congrArg State.nblk honly
        blkpf := congrArg State.blkpf honly
        allPar := congrArg (·.status.allPar) honly
        blk := (congrArg State.blk honly :)
        wbase := (congrArg State.wbase honly :)
        blen := (congrArg State.blen honly :)
        boff := (congrArg State.boff honly :)
        bitAt := (congrArg State.bitAt honly :)
        calls := (congrArg State.calls honly :)
        demodIn := (congrArg State.demodIn honly :) }, rfl⟩

/-! ### One turn of the block loop (R112, R115 to R117) -/

/-- A demodulator call in terms of the answers still to come (R30). -/
theorem askDemod_eq (s : State) (c : OracleCall) :
    s.askDemod c = (demodAnswerAt s 0 0 c, { s with calls := s.calls ++ [c], demodIn := s.demodIn.tail }) := by
  refine Prod.ext ?_ (State.askDemod_frame s c)
  rcases s.askDemod_cases c with ⟨r, rest, hin, he⟩ | ⟨hin, he⟩
  · simp [he, demodAnswerAt, hin]
  · simp [he, demodAnswerAt, hin]

/-- The state in which the answer for the block between the markers at `m` and `j` has arrived. -/
def askedForBlock (s : State) (m j : Nat) : State :=
  { s with
    wbase := toReg (blockStart s m), calls := s.calls ++ [blockCall s m j], demodIn := s.demodIn.tail }

theorem dataStart_eq_blockStart (s : State) (m : Nat) : s.dataStart m (phase s m) = blockStart s m := by
  rw [State.dataStart, State.pos_eq_position, blockStart]

/-- A turn that finds a marker, up to what is done with the answer. -/
theorem readBlocks_of_marker (hj : LowestMarker s (m + 4) j) :
    (position s j ≤ blockStart s m →
      State.readBlocks (n + 1) b m (phase s m) (m + 4) s = (s, some .bufferTooShort)) ∧
    (blockStart s m < position s j →
      (demodAnswerAt s 0 0 (blockCall s m j) = none →
        State.readBlocks (n + 1) b m (phase s m) (m + 4) s = (askedForBlock s m j, some .demodulatorFailed)) ∧
      ∀ bs, demodAnswerAt s 0 0 (blockCall s m j) = some bs →
        State.readBlocks (n + 1) b m (phase s m) (m + 4) s =
          if bs.length = 0 then (askedForBlock s m j, some .demodulatorFailed)
          else if bs.length < blockBits then (askedForBlock s m j, some .bufferTooShort)
          else State.readBlocks n (b + 1) j (phase s j) (j + 4)
            ((askedForBlock s m j).storeBlock b (bs.take blockBits))) := by
  have hcall : State.askDemod { s with wbase := toReg (blockStart s m) }
      (.demodAsk .manchester (State.window { s with wbase := toReg (blockStart s m) } (blockStart s m) (position s j))
        s.clk.toNat false s.cfg.maxErr.toNat) =
      (demodAnswerAt s 0 0 (blockCall s m j), askedForBlock s m j) := by
    rw [State.window, State.waveRange_eq_map, askDemod_eq]
    rfl
  simp only [State.readBlocks, findMarker_eq_some hj, dataStart_eq_blockStart, State.pos_eq_position, hcall,
    phaseAt_eq_phase]
  refine ⟨fun hempty => if_pos hempty, fun hwindow => ?_⟩
  rw [if_neg (not_le.mpr hwindow)]
  exact ⟨fun hnone => by rw [hnone], fun bs hbs => by rw [hbs]⟩

theorem readBlocks_of_no_marker (h : NoMarker s start) (m ph : Nat) :
    State.readBlocks n b m ph start s = ({ s with pidx := toReg start }, none) := by
  cases n with
  | zero => rfl
  | succ n => rw [State.readBlocks, findMarker_eq_none h]

/-- The turns in which the read ends with an error (R116). -/
theorem readBlocks_of_empty_window (hj : LowestMarker s (m + 4) j) (hempty : position s j ≤ blockStart s m) :
    State.readBlocks (n + 1) b m (phase s m) (m + 4) s = (s, some .bufferTooShort) :=
  (readBlocks_of_marker hj).1 hempty

theorem readBlocks_of_no_bits (hj : LowestMarker s (m + 4) j) (hwindow : blockStart s m < position s j)
    (hanswer : demodAnswerAt s 0 0 (blockCall s m j) = none ∨ demodAnswerAt s 0 0 (blockCall s m j) = some []) :
    State.readBlocks (n + 1) b m (phase s m) (m + 4) s = (askedForBlock s m j, some .demodulatorFailed) := by
  obtain ⟨hnone, hsome⟩ := (readBlocks_of_marker hj).2 hwindow
  rcases hanswer with hanswer | hanswer
  · exact hnone hanswer
  · exact (hsome _ hanswer).trans (if_pos rfl)

theorem readBlocks_of_few_bits (hj : LowestMarker s (m + 4) j) (hwindow : blockStart s m < position s j)
    (hanswer : demodAnswerAt s 0 0 (blockCall s m j) = some bs) (hne : bs ≠ []) (hshort : bs.length < 45) :
    State.readBlocks (n + 1) b m (phase s m) (m + 4) s = (askedForBlock s m j, some .bufferTooShort) := by
  rw [((readBlocks_of_marker hj).2 hwindow).2 bs hanswer, if_neg (by simpa using hne)]
  exact if_pos hshort

/-- A turn that decodes a block goes on from the next marker (R112). -/
theorem readBlocks_of_block (hj : LowestMarker s (m + 4) j) (hwindow : blockStart s m < position s j)
    (hanswer : demodAnswerAt s 0 0 (blockCall s m j) = some bs) (hlen : 45 ≤ bs.length) :
    State.readBlocks (n + 1) b m (phase s m) (m + 4) s =
      State.readBlocks n (b + 1) j (phase s j) (j + 4) ((askedForBlock s m j).storeBlock b (bs.take blockBits)) := by
  rw [((readBlocks_of_marker hj).2 hwindow).2 bs hanswer, if_neg (by omega)]
  exact if_neg (not_lt.mpr hlen)

/-! ### The stored block (R112, R115) -/

theorem isCode50_code50_take (bs : List Bool) : IsCode50 (code50 (bs.take blockBits)) (seqBit bs) :=
  isCode50_code50 fun _ hi => bitOf_take hi

theorem blockValid_take_iff (hlen : 45 ≤ bs.length) :
    blockValid (bs.take blockBits) 5 9 = true ↔ BlockPasses (seqBit bs) :=
  blockValid_iff (by rw [List.length_take]; exact le_min le_rfl hlen) fun _ hi => bitOf_take hi

theorem bitAt_storeBlock (s : State) (b : Nat) (hlen : 45 ≤ bs.length) (i : Nat) :
    (s.storeBlock b (bs.take blockBits)).bitAt i = if i < 45 then seqBit bs i else s.bitAt i := by
  have htake : (bs.take blockBits).length = 45 := by rw [List.length_take]; exact min_eq_left hlen
  rw [State.storeBlock, State.bitAt_writeBits, htake, Nat.zero_add, Nat.sub_zero]
  by_cases hi : i < 45
  · rw [if_pos ⟨Nat.zero_le i, hi⟩, if_pos hi, List.getD_eq_getElem _ _ (hi.trans_eq htake.symm), seqBit,
      List.getD_eq_getElem _ _ (hi.trans_le hlen), List.getElem_take]
  · rw [if_neg fun h => hi h.2, if_neg hi]
    rfl

/-- The first block stored in an empty read. -/
theorem storeBlock_zero (hblkpf : s.blkpf = 0) (hallPar : s.status.allPar = true) :
    s.storeBlock 0 bs =
      { s with
        blen := 45, boff := 0, nblk := 1, blk := s.blk.set 0 (code50 bs)
        blkpf := if blockValid bs 5 9 then 1 else 0
        status := { s.status with allPar := blockValid bs 5 9 }
        bits := (s.storeBlock 0 bs).bits } := by
  have hblk : s.blk.setIfInBounds 0 (code50 bs) = s.blk.set 0 (code50 bs) := by
    ext i hi
    rw [Vector.getElem_setIfInBounds, Vector.getElem_set]
  rw [State.storeBlock, hblk, hblkpf, hallPar]
  rfl

/-! ### The first block -/

/-- Settles O38: the error of the synchronisation is that of the read; without a second marker the first turn ends the
loop with nothing stored. -/
theorem x50readFollowsItsSync : Obligations.X50readFollowsItsSync := by
  intro s clk
  rcases x50read_cases s clk with ⟨a, hlwsync, herr, -, hread⟩ | ⟨u, hlwsync, hready, hread⟩
  · exact ⟨a, hlwsync, fun _ => hread, fun hnone => absurd hnone herr⟩
  · refine ⟨_, hlwsync, fun herr => absurd rfl herr, fun _ hnone => ⟨?_, hready.nblk, hready.blkpf, hready.allPar,
      hready.blk⟩⟩
    rw [hread, readBlocks_of_no_marker (s := u) (start := u.m1idx.toNat + 4) hnone, Progress.conclude_none]
    have hverdict : decide (1 ≤ u.nblk.toNat) = false := by rw [hready.nblk]; rfl
    exact congrArg (fun p => Host.Outcome.next (State.done { u with pidx := toReg (u.m1idx.toNat + 4) } p)) hverdict

/-- Settles O39: the ends of the first turn, and for a stored block the end of the second. -/
theorem x50readFirstBlock : Obligations.X50readFirstBlock := by
  intro s clk
  rcases x50read_cases s clk with ⟨a, hlwsync, herr, -, -⟩ | ⟨u, hlwsync, hready, hread⟩
  · exact ⟨a, hlwsync, fun j hnone => absurd hnone herr⟩
  refine ⟨_, hlwsync, ?_⟩
  rw [hread, show (u.done true).m1ph.toNat = phase u u.m1idx.toNat from hready.firstPhase]
  intro j _ hj
  replace hj : LowestMarker u (u.m1idx.toNat + 4) j := hj
  refine ⟨fun hempty => ?_, fun hwindow hanswer => ?_, fun bs hwindow hanswer hne hshort => ?_,
    fun bs hwindow hanswer hlen hlast => ?_⟩
  · rw [readBlocks_of_empty_window hj hempty]
    rfl
  · rw [readBlocks_of_no_bits hj hwindow hanswer]
    rfl
  · rw [readBlocks_of_few_bits hj hwindow hanswer hne hshort]
    rfl
  · have hnone : NoMarker ((askedForBlock u u.m1idx.toNat j).storeBlock 0 (bs.take blockBits)) (j + 4) := hlast
    rw [readBlocks_of_block hj hwindow hanswer hlen, readBlocks_of_no_marker hnone]
    refine ⟨_, code50 (bs.take blockBits), blockValid (bs.take blockBits) 5 9, rfl, isCode50_code50_take bs,
      blockValid_take_iff hlen, ?_, bitAt_storeBlock (askedForBlock u u.m1idx.toNat j) 0 hlen⟩
    rw [← hready.blk, storeBlock_zero (s := askedForBlock u u.m1idx.toNat j) hready.blkpf hready.allPar]
    rfl

end Sys2Proof.Machine
end

section
/-! SUPPORT. X50READ's block loop (42_em4x50_block.md R112 to R117): what the blocks and the calls made so far leave of
the synchronised state, and the turn that ends the loop. -/
namespace Sys2Proof.Machine
open Sys2Proof.Claims

variable {s u : State} {n b i j start clk : Nat}

/-! ### Markers, calls and answers from the synchronised state -/

/-- The markers of the read: the first one, then each the lowest from four pulses past the one before (R112). -/
def markerAt (u : State) : Nat → Nat
  | 0 => u.m1idx.toNat
  | b + 1 => (u.findMarker (markerAt u b + 4)).getD 0

/-- The call for block `b`. -/
def callFor (u : State) (b : Nat) : OracleCall := blockCall u (markerAt u b) (markerAt u (b + 1))

/-- The bits answered to it. -/
def answerTo (u : State) (b : Nat) : List Bool := (demodAnswerAt u b b (callFor u b)).getD []

theorem markerAt_succ (h : LowestMarker u (markerAt u b + 4) j) : markerAt u (b + 1) = j := by
  rw [markerAt, findMarker_eq_some h]
  rfl

/-- `t` with the registers and records as the first `k` calls leave them. -/
def afterCalls (u t : State) (k : Nat) : State :=
  { t with
    wbase := if k = 0 then u.wbase else toReg (blockStart u (markerAt u (k - 1)))
    calls := u.calls ++ (List.range k).map (callFor u)
    demodIn := u.demodIn.drop k }

/-- The state with the first `n` blocks stored. -/
def blocksRead (u : State) : Nat → State
  | 0 => u
  | n + 1 => (afterCalls u (blocksRead u n) (n + 1)).storeBlock n ((answerTo u n).take blockBits)

/-- `u` with the fields that storing `n` blocks may change taken from `t`. -/
def blockFrame (u : State) (n : Nat) (t : State) : State :=
  afterCalls u
    { u with
      nblk := toReg n, blk := t.blk, blkpf := t.blkpf, bits := t.bits
      blen := if n = 0 then u.blen else 45
      boff := if n = 0 then u.boff else 0
      status := { u.status with allPar := t.status.allPar } } n

theorem blocksRead_eq_blockFrame (hnblk : u.nblk = 0) (n : Nat) :
    blocksRead u n = blockFrame u n (blocksRead u n) := by
  induction n with
  | zero =>
    have hzero : toReg 0 = u.nblk := hnblk.symm
    rw [blockFrame, afterCalls, hzero, List.range_zero, List.map_nil, List.append_nil]
    rfl
  | succ n ih =>
    rw [blocksRead, ih]
    rfl

/-! ### What is stored -/

theorem blk_blocksRead (u : State) (n : Nat) (hb : b < 6) :
    (blocksRead u n).blk[b] = if b < n then code50 ((answerTo u b).take blockBits) else u.blk[b] := by
  induction n with
  | zero => rfl
  | succ n ih =>
    have hset : (blocksRead u (n + 1)).blk =
        (blocksRead u n).blk.setIfInBounds n (code50 ((answerTo u n).take blockBits)) := rfl
    simp only [hset, Vector.getElem_setIfInBounds, ih]
    rcases Nat.lt_trichotomy b n with hlt | rfl | hlt
    · rw [if_neg hlt.ne', if_pos hlt, if_pos (Nat.lt_succ_of_lt hlt)]
    · rw [if_pos rfl, if_pos (Nat.lt_succ_self b)]
    · rw [if_neg hlt.ne, if_neg (by omega), if_neg (by omega)]

theorem blkpf_blocksRead (hblkpf : u.blkpf = 0) (n : Nat) (hb : b < 6) :
    (blocksRead u n).blkpf.getLsbD b = true ↔ b < n ∧ blockValid ((answerTo u b).take blockBits) 5 9 = true := by
  induction n with
  | zero => simp [blocksRead, hblkpf]
  | succ n ih =>
    have hset : (blocksRead u (n + 1)).blkpf =
        if blockValid ((answerTo u n).take blockBits) 5 9 then (blocksRead u n).blkpf ||| (1#6 <<< n)
        else (blocksRead u n).blkpf := rfl
    have hone : (1#6 <<< n).getLsbD b = true ↔ b = n := by
      simp only [BitVec.getLsbD_shiftLeft, BitVec.getLsbD_one, Bool.and_eq_true, Bool.not_eq_true', decide_eq_true_eq,
        decide_eq_false_iff_not]
      omega
    rw [hset]
    split
    · next hvalid =>
      rw [BitVec.getLsbD_or, Bool.or_eq_true, ih, hone]
      constructor
      · rintro (⟨hlt, hv⟩ | rfl)
        · exact ⟨Nat.lt_succ_of_lt hlt, hv⟩
        · exact ⟨Nat.lt_succ_self b, hvalid⟩
      · rintro ⟨hle, hv⟩
        rcases Nat.lt_succ_iff_lt_or_eq.mp hle with hlt | heq
        · exact .inl ⟨hlt, hv⟩
        · exact .inr heq
    · next hinvalid =>
      rw [ih]
      refine ⟨fun ⟨hlt, hv⟩ => ⟨Nat.lt_succ_of_lt hlt, hv⟩, fun ⟨hle, hv⟩ => ⟨?_, hv⟩⟩
      rcases Nat.lt_succ_iff_lt_or_eq.mp hle with hlt | rfl
      · exact hlt
      · exact absurd hv hinvalid

theorem allPar_blocksRead (hallPar : u.status.allPar = true) (n : Nat) :
    (blocksRead u n).status.allPar = true ↔ ∀ b < n, blockValid ((answerTo u b).take blockBits) 5 9 = true := by
  induction n with
  | zero => simp [blocksRead, hallPar]
  | succ n ih =>
    have hset : (blocksRead u (n + 1)).status.allPar =
        ((blocksRead u n).status.allPar && blockValid ((answerTo u n).take blockBits) 5 9) := rfl
    rw [hset, Bool.and_eq_true, ih, Nat.forall_lt_succ_right]

/-- BITS holds the last block alone: each store writes the same 45 elements. -/
theorem bitAt_blocksRead (hlen : ∀ b < n, 45 ≤ (answerTo u b).length) (i : Nat) :
    (blocksRead u n).bitAt i = if 0 < n ∧ i < 45 then seqBit (answerTo u (n - 1)) i else u.bitAt i := by
  induction n with
  | zero => rfl
  | succ n ih =>
    have hrest : (afterCalls u (blocksRead u n) (n + 1)).bitAt i = (blocksRead u n).bitAt i := rfl
    rw [blocksRead, bitAt_storeBlock _ n (hlen n (Nat.lt_succ_self n)), hrest,
      ih fun b hb => hlen b (Nat.lt_succ_of_lt hb)]
    by_cases hi : i < 45
    · rw [if_pos hi, if_pos ⟨Nat.succ_pos n, hi⟩, Nat.add_sub_cancel]
    · rw [if_neg hi, if_neg fun h => hi h.2, if_neg fun h => hi h.2]

/-! ### The loop -/

/-- Block `b` is decoded: a marker follows the one before it, its window is not empty, and the answer has 45 bits. -/
structure BlockDecoded (u : State) (b : Nat) : Prop where
  marker : LowestMarker u (markerAt u b + 4) (markerAt u (b + 1))
  window : blockStart u (markerAt u b) < position u (markerAt u (b + 1))
  answer : demodAnswerAt u b b (callFor u b) = some (answerTo u b)
  bits : 45 ≤ (answerTo u b).length

/-- How the loop ends after `n` blocks: with how many calls, which PIDX, and which error (R112, R114, R116). -/
inductive ReadEnds (u : State) (n : Nat) : Nat → Word → Option ErrKind → Prop where
  | noMarker (h : n = 6 ∨ NoMarker u (markerAt u n + 4)) : ReadEnds u n n (toReg (markerAt u n + 4)) none
  | emptyWindow (hn : n < 6) (hmarker : LowestMarker u (markerAt u n + 4) (markerAt u (n + 1)))
      (hempty : position u (markerAt u (n + 1)) ≤ blockStart u (markerAt u n)) :
      ReadEnds u n n u.pidx (some .bufferTooShort)
  | noBits (hn : n < 6) (hmarker : LowestMarker u (markerAt u n + 4) (markerAt u (n + 1)))
      (hwindow : blockStart u (markerAt u n) < position u (markerAt u (n + 1)))
      (hanswer : demodAnswerAt u n n (callFor u n) = none ∨ demodAnswerAt u n n (callFor u n) = some []) :
      ReadEnds u n (n + 1) u.pidx (some .demodulatorFailed)
  | fewBits (hn : n < 6) (hmarker : LowestMarker u (markerAt u n + 4) (markerAt u (n + 1)))
      (hwindow : blockStart u (markerAt u n) < position u (markerAt u (n + 1))) (bs : List Bool)
      (hanswer : demodAnswerAt u n n (callFor u n) = some bs) (hne : bs ≠ []) (hshort : bs.length < 45) :
      ReadEnds u n (n + 1) u.pidx (some .bufferTooShort)

/-- The turn for block `b` sees the capture of the synchronised state. -/
theorem blocksRead_reads (hnblk : u.nblk = 0) (b : Nat) :
    (∀ start j, LowestMarker (blocksRead u b) start j ↔ LowestMarker u start j) ∧
    (∀ start, NoMarker (blocksRead u b) start ↔ NoMarker u start) ∧
    blockStart (blocksRead u b) = blockStart u ∧ position (blocksRead u b) = position u ∧
    phase (blocksRead u b) = phase u ∧ (blocksRead u b).pidx = u.pidx := by
  rw [blocksRead_eq_blockFrame hnblk b]
  exact ⟨fun _ _ => Iff.rfl, fun _ => Iff.rfl, rfl, rfl, rfl, rfl⟩

/-- Of the answers ready for `u`, the calls made so far have used one for each block. -/
theorem demodAnswerAt_blocksRead (hnblk : u.nblk = 0) (b : Nat) :
    demodAnswerAt (blocksRead u b) 0 0 (blockCall (blocksRead u b) (markerAt u b) (markerAt u (b + 1))) =
      demodAnswerAt u b b (callFor u b) := by
  rw [blocksRead_eq_blockFrame hnblk b]
  simp only [demodAnswerAt, blockFrame, afterCalls, List.getElem?_drop, List.length_append, List.length_map,
    List.length_range, Nat.add_zero]
  rfl

theorem askedForBlock_blocksRead (hnblk : u.nblk = 0) (b : Nat) :
    askedForBlock (blocksRead u b) (markerAt u b) (markerAt u (b + 1)) = afterCalls u (blocksRead u b) (b + 1) := by
  rw [blocksRead_eq_blockFrame hnblk b]
  simp only [askedForBlock, afterCalls, blockFrame, List.range_succ, List.map_append, List.map_cons, List.map_nil,
    List.append_assoc, List.tail_drop]
  rfl

theorem afterCalls_blocksRead (hnblk : u.nblk = 0) (b : Nat) : afterCalls u (blocksRead u b) b = blocksRead u b := by
  rw [blocksRead_eq_blockFrame hnblk b]
  rfl

/-- From block `b` on the loop decodes some blocks and then ends, in the order of R112's tests. -/
theorem readBlocks_ends_from (hnblk : u.nblk = 0) {k : Nat} (hbk : b + k = 6) :
    ∃ n calls p e, n ≤ 6 ∧ (∀ c, b ≤ c → c < n → BlockDecoded u c) ∧ ReadEnds u n calls p e ∧
      State.readBlocks k b (markerAt u b) (phase u (markerAt u b)) (markerAt u b + 4) (blocksRead u b) =
        ({ afterCalls u (blocksRead u n) calls with pidx := p }, e) := by
  induction k generalizing b with
  | zero =>
    refine ⟨b, b, _, none, hbk.le, fun c hc hcb => by omega, .noMarker (.inl hbk), ?_⟩
    rw [afterCalls_blocksRead hnblk]
    rfl
  | succ k ih =>
    have hb : b < 6 := by omega
    have hnow : ∀ c, b ≤ c → c < b → BlockDecoded u c := fun c hc hcb => by omega
    obtain ⟨hlowest, hnone, hstart, hposition, hphase, hpidx⟩ := blocksRead_reads hnblk b
    rw [← hphase]
    rcases lowestMarker_or_noMarker u (markerAt u b + 4) with ⟨j, hj⟩ | hlast
    case inr =>
      refine ⟨b, b, _, none, hb.le, hnow, .noMarker (.inr hlast), ?_⟩
      rw [readBlocks_of_no_marker ((hnone _).mpr hlast), afterCalls_blocksRead hnblk]
    obtain rfl := markerAt_succ hj
    have hj' := (hlowest _ _).mpr hj
    by_cases hempty : position u (markerAt u (b + 1)) ≤ blockStart u (markerAt u b)
    · refine ⟨b, b, u.pidx, _, hb.le, hnow, .emptyWindow hb hj hempty, ?_⟩
      rw [readBlocks_of_empty_window hj' (by rwa [hstart, hposition]), afterCalls_blocksRead hnblk, ← hpidx]
    have hwindow := not_le.mp hempty
    have hwindow' : blockStart (blocksRead u b) (markerAt u b) < position (blocksRead u b) (markerAt u (b + 1)) := by
      rwa [hstart, hposition]
    have hasks := demodAnswerAt_blocksRead hnblk b
    have hfails (e : ErrKind) : (askedForBlock (blocksRead u b) (markerAt u b) (markerAt u (b + 1)), some e) =
        ({ afterCalls u (blocksRead u b) (b + 1) with pidx := u.pidx }, some e) := by
      rw [askedForBlock_blocksRead hnblk, ← hpidx]
      rfl
    by_cases hno : demodAnswerAt u b b (callFor u b) = none ∨ demodAnswerAt u b b (callFor u b) = some []
    · refine ⟨b, b + 1, u.pidx, _, hb.le, hnow, .noBits hb hj hwindow hno, ?_⟩
      rw [readBlocks_of_no_bits hj' hwindow' (by rwa [hasks]), hfails]
    obtain ⟨bs, hbs⟩ : ∃ bs, demodAnswerAt u b b (callFor u b) = some bs :=
      Option.ne_none_iff_exists'.mp fun h => hno (.inl h)
    have hne : bs ≠ [] := fun h => hno (.inr (h ▸ hbs))
    have hbs' := hasks.trans hbs
    by_cases hshort : bs.length < 45
    · refine ⟨b, b + 1, u.pidx, _, hb.le, hnow, .fewBits hb hj hwindow bs hbs hne hshort, ?_⟩
      rw [readBlocks_of_few_bits hj' hwindow' hbs' hne hshort, hfails]
    have hanswer : answerTo u b = bs := by rw [answerTo, hbs]; rfl
    have hlen := not_lt.mp hshort
    obtain ⟨n, calls, p, e, hn, hdecoded, hends, hloop⟩ := ih (b := b + 1) (by omega)
    refine ⟨n, calls, p, e, hn, fun c hc hcn => ?_, hends, ?_⟩
    · rcases hc.eq_or_lt with rfl | hlt
      · exact ⟨hj, hwindow, hanswer ▸ hbs, hanswer ▸ hlen⟩
      · exact hdecoded c hlt hcn
    · rw [readBlocks_of_block hj' hwindow' hbs' hlen, hphase, askedForBlock_blocksRead hnblk, ← hanswer]
      exact hloop

/-- The whole loop. -/
theorem readBlocks_ends (hnblk : u.nblk = 0) :
    ∃ n calls p e, n ≤ 6 ∧ (∀ b < n, BlockDecoded u b) ∧ ReadEnds u n calls p e ∧
      State.readBlocks 6 0 u.m1idx.toNat (phase u u.m1idx.toNat) (u.m1idx.toNat + 4) u =
        ({ afterCalls u (blocksRead u n) calls with pidx := p }, e) := by
  obtain ⟨n, calls, p, e, hn, hdecoded, hends, hloop⟩ := readBlocks_ends_from hnblk (b := 0) (k := 6) rfl
  exact ⟨n, calls, p, e, hn, fun b => hdecoded b (Nat.zero_le b), hends, hloop⟩

/-! ### The read as a whole -/

theorem verdict_blocksRead (hnblk : u.nblk = 0) (hn : n ≤ 6) :
    decide (1 ≤ (blocksRead u n).nblk.toNat) = decide (0 < n) := by
  have hcount : (blocksRead u n).nblk = toReg n := by
    rw [blocksRead_eq_blockFrame hnblk n]
    rfl
  rw [hcount, toNat_toReg_of_lt (by omega)]
  rfl

theorem status_blocksRead (hnblk : u.nblk = 0) (n : Nat) :
    (blocksRead u n).status = { u.status with allPar := (blocksRead u n).status.allPar } := by
  conv_lhs => rw [blocksRead_eq_blockFrame hnblk n]
  rfl

/-- What the command's end leaves of the loop's last state. -/
theorem conclude_afterCalls (u : State) (n calls : Nat) (p : Word) (e : Option ErrKind) (v : State → Bool) :
    let t := Progress.conclude ({ afterCalls u (blocksRead u n) calls with pidx := p }, e) v
    t = { afterCalls u (blocksRead u n) calls with
      pidx := p
      status :=
        { (blocksRead u n).status with err := t.status.err, pass := t.status.pass, errSeen := t.status.errSeen } } := by
  cases e <;> rfl

/-- Settles O40: the loop's state is `blocksRead` with the calls made, and its last turn is one of `ReadEnds`. -/
theorem x50readBlocksComeFromTheAnswers : Obligations.X50readBlocksComeFromTheAnswers := by
  intro s clk
  rcases x50read_cases s clk with ⟨a, hlwsync, herr, -, -⟩ | ⟨u, hlwsync, hready, hread⟩
  · exact ⟨a, hlwsync, fun hnone => absurd hnone herr⟩
  refine ⟨_, hlwsync, fun _ => ?_⟩
  obtain ⟨n, calls, p, e, hn, hdecoded, hends, hloop⟩ := readBlocks_ends hready.nblk
  have hread' := hread.trans (congrArg (fun r => Host.Outcome.next (Progress.conclude r _)) hloop)
  have hframe := conclude_afterCalls u n calls p e fun t => decide (1 ≤ t.nblk.toNat)
  generalize ht : Progress.conclude ({ afterCalls u (blocksRead u n) calls with pidx := p }, e)
    (fun t => decide (1 ≤ t.nblk.toNat)) = t at hread' hframe
  have hblk : t.blk = (blocksRead u n).blk := by rw [hframe]; rfl
  have hblkpf : t.blkpf = (blocksRead u n).blkpf := by rw [hframe]; rfl
  have hallPar : t.status.allPar = (blocksRead u n).status.allPar := by rw [hframe]
  have hbits : t.bitAt = (blocksRead u n).bitAt := by rw [hframe]; rfl
  refine ⟨markerAt u, answerTo u, n, calls, t, hread', hn, rfl, fun b hb => ?_, fun b hb hbn => ⟨?_, ?_⟩,
    fun b hb hnb => ⟨?_, ?_⟩, ?_, fun i => ?_, ?_, ?_⟩
  · obtain ⟨hmarker, hwindow, hanswer, hlen⟩ := hdecoded b hb
    exact ⟨hmarker, hwindow, hanswer, hlen⟩
  · simp only [hblk, blk_blocksRead u n hb, if_pos hbn]
    exact isCode50_code50_take _
  · rw [hblkpf, blkpf_blocksRead hready.blkpf n hb, blockValid_take_iff (hdecoded b hbn).bits]
    exact and_iff_right hbn
  · simp only [hblk, blk_blocksRead u n hb, if_neg (not_lt.mpr hnb), hready.blk]
  · rw [hblkpf, ← Bool.not_eq_true, blkpf_blocksRead hready.blkpf n hb]
    exact fun h => absurd h.1 (not_lt.mpr hnb)
  · rw [hallPar, allPar_blocksRead hready.allPar]
    refine forall₂_congr fun b hb => ?_
    rw [hblkpf, blkpf_blocksRead hready.blkpf n (hb.trans_le hn), and_iff_right hb]
  · rw [hbits, bitAt_blocksRead (fun b hb => (hdecoded b hb).bits), hready.bitAt]
  · have hbuffer : t.bits = (blocksRead u n).bits := by rw [hframe]; rfl
    have hpidx : t.pidx = p := by rw [hframe]
    rw [hblk, hblkpf, hbuffer, hallPar, hpidx, ← hready.blen, ← hready.boff, ← hready.wbase, ← hready.calls,
      ← hready.demodIn]
    refine hframe.trans ?_
    conv_lhs => rw [blocksRead_eq_blockFrame hready.nblk n]
    rfl
  · subst ht
    cases hends with
    | noMarker h =>
      refine .inl ⟨rfl, h, rfl, rfl, ?_, ?_⟩
      · exact verdict_blocksRead hready.nblk hn
      · exact (congrArg Status.errSeen (status_blocksRead hready.nblk n)).trans hready.errSeen
    | emptyWindow hn hmarker hempty => exact .inr ⟨hn, hmarker, rfl, rfl, rfl, .inl ⟨rfl, hempty, rfl⟩⟩
    | noBits hn hmarker hwindow hanswer =>
      exact .inr ⟨hn, hmarker, rfl, rfl, rfl, .inr ⟨rfl, hwindow, .inl ⟨hanswer, rfl⟩⟩⟩
    | fewBits hn hmarker hwindow bs hanswer hne hshort =>
      exact .inr ⟨hn, hmarker, rfl, rfl, rfl, .inr ⟨rfl, hwindow, .inr ⟨bs, hanswer, hne, hshort, rfl⟩⟩⟩

/-- Settles O41: an error of the synchronisation leaves NBLK 0, and without a terminating marker the block loop, which
does not write COMPLETE, finds no block to decode. -/
theorem incompleteReadsHaveNoBlock : Obligations.IncompleteReadsHaveNoBlock := by
  intro s t clk hread hcomplete
  rcases x50read_cases s clk with ⟨a, -, -, hnblk, ha⟩ | ⟨u, -, hready, hu⟩
  · cases ha.symm.trans hread
    exact hnblk
  have ht := hu.symm.trans hread
  have hincomplete : u.status.complete = false := by
    obtain ⟨n, calls, p, e, -, -, -, hloop⟩ := readBlocks_ends hready.nblk
    rw [hloop, conclude_afterCalls] at ht
    cases ht
    exact (congrArg Status.complete (status_blocksRead hready.nblk n)).symm.trans hcomplete
  rw [readBlocks_of_no_marker (hready.incomplete hincomplete)] at ht
  cases ht
  exact hready.nblk

end Sys2Proof.Machine
end

section
/-! SUPPORT. Responses (43_em4x05_cascade.md R126, R133, R135): the preamble search, the test of a response by what
stands in its bits, and the payload it yields. -/
namespace Sys2Proof.Machine
open Sys2Proof.Claims

variable {s t : State} {bs : List Bool} {bit : Nat → Bool} {readCmd : Bool} {n o : Nat}

/-! ### Parts of a sequence -/

theorem bitOf_drop (bs : List Bool) (m i : Nat) : bitOf (bs.drop m) i = bitOf bs (m + i) := by
  simp [bitOf, List.getD_eq_getElem?_getD, List.getElem?_drop]

theorem take_drop_eq_map (h : o + n ≤ bs.length) :
    (bs.drop o).take n = (List.range n).map fun i => bitOf bs (o + i) := by
  refine List.ext_getElem (by simp; omega) fun i hi _ => ?_
  have hi' : o + i < bs.length := by
    rw [List.length_take, List.length_drop] at hi
    omega
  simp [bitOf, List.getElem?_eq_getElem hi']

/-- The payload of a read response with its preamble at offset `o` (R133). -/
def readPayload (bs : List Bool) (o : Nat) : List Bool := payloadOf ((bs.drop (o + 6)).take blockBits)

/-! ### The preamble (R126) -/

section
variable (hbits : ∀ i < bs.length, bitOf bs i = bit i)
include hbits

theorem take_drop_eq_preamble_iff : (bs.drop o).take 6 = preamble ↔ PreambleAt bit bs.length o := by
  by_cases hfit : o + 6 ≤ bs.length
  · rw [take_drop_eq_map hfit, PreambleAt, and_iff_right hfit,
      List.map_congr_left fun i hi => hbits (o + i) (by have := List.mem_range.mp hi; omega)]
    simp [List.range_succ, preamble]
  · refine iff_of_false (fun h => hfit ?_) fun h => hfit h.1
    have hlen : min 6 (bs.length - o) = 6 := by simpa [preamble] using congrArg List.length h
    omega

theorem findPreamble_eq_none (h : ∀ o, o < 14 → ¬ PreambleAt bit bs.length o) : findPreamble bs = none := by
  refine List.find?_eq_none.mpr fun o ho => ?_
  rw [beq_iff_eq, take_drop_eq_preamble_iff hbits]
  exact h o (List.mem_range.mp ho)

theorem findPreamble_eq_some (h : FirstPreamble bit bs.length o) : findPreamble bs = some o := by
  obtain ⟨hlt, hat, hfirst⟩ := h
  refine find?_eq_some_of_least List.pairwise_lt_range (List.mem_range.mpr hlt) ?_ fun k _ hk => ?_
  · rwa [beq_iff_eq, take_drop_eq_preamble_iff hbits]
  · rw [beq_iff_eq, take_drop_eq_preamble_iff hbits]
    exact hfirst k hk

/-! ### The test (R133) -/

theorem test05_of_no_preamble (h : ∀ o, o < 14 → ¬ PreambleAt bit bs.length o) :
    test05 bs readCmd = .error .preambleNotFound := by
  rw [test05, findPreamble_eq_none hbits h]

theorem test05_of_acknowledgement (h : FirstPreamble bit bs.length o) : test05 bs false = .ok (o, none) := by
  rw [test05, findPreamble_eq_some hbits h]
  rfl

/-- The test of a read response goes by the 45 bits after the preamble: their number, then their parity. -/
theorem test05_read (h : FirstPreamble bit bs.length o) :
    test05 bs true =
      if bs.length < o + 51 then .error .bufferTooShort
      else if blockValid ((bs.drop (o + 6)).take blockBits) 5 9 then .ok (o, some (readPayload bs o))
      else .error .parityFailed := by
  have hlen : ((bs.drop (o + 6)).take blockBits).length < blockBits ↔ bs.length < o + 51 := by
    rw [List.length_take, List.length_drop, blockBits]
    omega
  rw [test05, findPreamble_eq_some hbits h]
  exact (if_pos rfl).trans (if_congr hlen rfl rfl)

theorem blockValid_response_iff (hfit : o + 51 ≤ bs.length) :
    blockValid ((bs.drop (o + 6)).take blockBits) 5 9 = true ↔ BlockPasses fun i => bit (o + 6 + i) := by
  refine blockValid_iff ?_ fun i hi => ?_
  · rw [List.length_take, List.length_drop, blockBits]
    omega
  · rw [bitOf_take (n := blockBits) hi, bitOf_drop, hbits _ (by omega)]

theorem test05_of_short (h : FirstPreamble bit bs.length o) (hshort : bs.length < o + 51) :
    test05 bs true = .error .bufferTooShort := by
  rw [test05_read hbits h, if_pos hshort]

theorem test05_of_parity_error (h : FirstPreamble bit bs.length o) (hfit : o + 51 ≤ bs.length)
    (hnot : ¬ BlockPasses fun i => bit (o + 6 + i)) : test05 bs true = .error .parityFailed := by
  rw [test05_read hbits h, if_neg (not_lt.mpr hfit), if_neg ((blockValid_response_iff hbits hfit).not.mpr hnot)]

theorem test05_of_valid_read (h : ValidRead bit bs.length o) : test05 bs true = .ok (o, some (readPayload bs o)) := by
  obtain ⟨hfirst, hfit, hpass⟩ := h
  rw [test05_read hbits hfirst, if_neg (not_lt.mpr hfit), if_pos ((blockValid_response_iff hbits hfit).mpr hpass)]

end

theorem firstPreamble_or_none (bit : Nat → Bool) (len : Nat) :
    (∃ o, FirstPreamble bit len o) ∨ ∀ o, o < 14 → ¬ PreambleAt bit len o := by
  classical
  by_cases hfound : ∃ o, o < 14 ∧ PreambleAt bit len o
  · obtain ⟨hlt, hat⟩ := Nat.find_spec hfound
    exact .inl ⟨_, hlt, hat, fun k hk hpre => Nat.find_min hfound hk ⟨hk.trans hlt, hpre⟩⟩
  · exact .inr fun o hlt hat => hfound ⟨o, hlt, hat⟩

/-! ### The payload (R133, R135) -/

@[simp] theorem length_readPayload (bs : List Bool) (o : Nat) : (readPayload bs o).length = 32 := by
  simp [readPayload, payloadOf]

theorem bitOf_readPayload (bs : List Bool) (o : Nat) (hn : n < 32) :
    bitOf (readPayload bs o) n = bitOf bs (o + 6 + 9 * (n / 8) + n % 8) := by
  have hpayload : bitOf (readPayload bs o) n = bitOf ((bs.drop (o + 6)).take blockBits) (9 * (n / 8) + n % 8) := by
    rw [bitOf, List.getD_eq_getElem _ _ (hn.trans_eq (length_readPayload bs o).symm)]
    simp [readPayload, payloadOf]
  rw [hpayload, bitOf_take (by rw [blockBits]; omega), bitOf_drop, ← Nat.add_assoc]

/-- The first payload bit is the least significant of the word. -/
theorem getLsbD_word05 (p : List Bool) (hn : n < 32) : (word05 p).getLsbD n = bitOf p n := by
  rw [Bool.eq_iff_iff, word05, getLsbD_sumTo_bitAtPos (p := fun i => i) (fun i _ j hj => hj.ne') hn]
  exact ⟨fun ⟨i, _, hin, hbit⟩ => hin ▸ hbit, fun hbit => ⟨n, hn, rfl, hbit⟩⟩

theorem bitAt_writeBits_zero (s : State) (bs : List Bool) (n : Nat) :
    (s.writeBits 0 bs).bitAt n = if n < bs.length then bitOf bs n else s.bitAt n := by
  rw [State.bitAt_writeBits, Nat.zero_add, Nat.sub_zero]
  by_cases hn : n < bs.length
  · rw [if_pos ⟨Nat.zero_le n, hn⟩, if_pos hn, bitOf, List.getD_eq_getElem _ _ hn, List.getD_eq_getElem _ _ hn]
  · rw [if_neg fun h => hn h.2, if_neg hn]

/-- A state with the payload in WORD and at the front of BITS holds the read response's data bits. -/
theorem readStored_of_payload (hbits : ∀ i < bs.length, bitOf bs i = bit i) (hvalid : ValidRead bit bs.length o)
    (hword : t.word = word05 (readPayload bs o)) (hstored : t.bitAt = (s.writeBits 0 (readPayload bs o)).bitAt) :
    ReadStored bit o s t := by
  obtain ⟨-, hfit, -⟩ := hvalid
  refine ⟨fun n hn => ?_, fun n hn => ?_⟩
  · have hpayload : bitOf (readPayload bs o) n = payloadBit bit o n := by
      rw [bitOf_readPayload bs o hn, hbits _ (by omega), payloadBit]
    rw [hword, hstored, getLsbD_word05 _ hn, bitAt_writeBits_zero, length_readPayload, if_pos hn]
    exact ⟨hpayload, hpayload⟩
  · rw [hstored, bitAt_writeBits_zero, length_readPayload, if_neg (not_lt.mpr hn)]

/-! ### X05TEST -/

/-- Settles O48: the response under test is what stands in BITS from BOFF on. -/
theorem x05testOutcome : Obligations.X05testOutcome := by
  intro s
  have hbits : ∀ i < s.visibleBits.length, bitOf s.visibleBits i = offsetBit s i := fun i => s.bitOf_visibleBits
  have hexec (readCmd : Bool) (hle : s.boff.toNat ≤ s.blen.toNat) : exec (.x05test readCmd) s =
      match test05 s.visibleBits readCmd with
      | .error k => .next (s.raise k)
      | .ok (o, none) => .next ({ s with preoff := toReg o }.done true)
      | .ok (o, some p) => .next (({ s with preoff := toReg o }.storePayload p).done true) :=
    if_neg (by simpa [State.bitsMissing] using hle)
  simp only [← s.length_visibleBits]
  refine ⟨fun readCmd hmissing => if_pos (by simpa [State.bitsMissing] using hmissing),
    fun readCmd hle hnone => ?_, fun o hle hfirst => ?_, fun o hle hfirst hshort => ?_,
    fun o hle hfirst hfit hnot => ?_, fun o hle hvalid => ?_⟩
  · rw [hexec _ hle, test05_of_no_preamble hbits hnone]
    rfl
  · rw [hexec _ hle, test05_of_acknowledgement hbits hfirst]
    rfl
  · rw [hexec _ hle, test05_of_short hbits hfirst hshort]
    rfl
  · rw [hexec _ hle, test05_of_parity_error hbits hfirst hfit hnot]
    rfl
  · rw [hexec _ hle, test05_of_valid_read hbits hvalid]
    exact ⟨_, rfl, rfl, readStored_of_payload hbits hvalid rfl rfl⟩

end Sys2Proof.Machine
end

section
/-! SUPPORT. The remapping of PSK variant 1 (43_em4x05_cascade.md R131) and the chip information fields (R140). -/
namespace Sys2Proof.Machine
open Sys2Proof.Claims

variable {s : State}

@[simp] theorem length_transitionMap (bs : List Bool) : (transitionMap bs).length = bs.length := by
  simp [transitionMap]

/-- The default map pairs each bit with the one before it, the first with a 0 (R131). -/
theorem psk1ToPsk2_eq_transitionMap (h : s.params.psk2map = .standard) (bs : List Bool) :
    s.psk1ToPsk2 bs = transitionMap bs := by
  refine List.ext_getElem (by simp) fun i hi _ => ?_
  rw [State.length_psk1ToPsk2] at hi
  simp only [State.psk1ToPsk2, h, transitionMap, List.getElem_zipWith, List.getElem_map, List.getElem_range, seqBit]
  cases i with
  | zero => simp [List.getElem?_eq_getElem hi]
  | succ i => simp [List.getElem?_eq_getElem hi, List.getElem?_eq_getElem (Nat.lt_of_succ_lt hi)]

theorem seqBit_transitionMap {bs : List Bool} {i : Nat} (hi : i < bs.length) :
    seqBit (transitionMap bs) i = if i = 0 then seqBit bs 0 else (seqBit bs i ^^ seqBit bs (i - 1)) := by
  conv_lhs => rw [seqBit, List.getD_eq_getElem _ _ (hi.trans_eq (length_transitionMap bs).symm)]
  simp [transitionMap]

/-- Settles O49: the store covers exactly the visible bits, and their map is taken before it. -/
theorem psk2mapOutcome : Obligations.Psk2mapOutcome := by
  intro s
  refine ⟨fun hmissing => if_pos (by simpa [State.bitsMissing] using hmissing), fun hle => ?_⟩
  have hlen := s.length_visibleBits
  have hread (n : Nat) : (s.writeBits s.boff.toNat (s.psk1ToPsk2 s.visibleBits)).bitAt n =
      if s.boff.toNat ≤ n ∧ n < s.blen.toNat then (s.psk1ToPsk2 s.visibleBits).getD (n - s.boff.toNat) (s.bitAt n)
      else s.bitAt n := by
    rw [State.bitAt_writeBits, State.length_psk1ToPsk2, hlen, Nat.add_sub_cancel' hle]
  refine ⟨_, if_neg (by simpa [State.bitsMissing] using hle), rfl, fun n hn => ?_, fun hmap n hge hlt => ?_⟩
  · exact (hread n).trans (if_neg (by omega))
  · have hbit (i : Nat) (hi : i < s.visibleBits.length) : seqBit s.visibleBits i = s.bitAt (s.boff.toNat + i) :=
      s.bitOf_visibleBits hi
    obtain ⟨i, rfl⟩ := Nat.exists_eq_add_of_le hge
    have hi : i < s.visibleBits.length := by omega
    refine ((hread _).trans (if_pos ⟨hge, hlt⟩)).trans ?_
    rw [psk1ToPsk2_eq_transitionMap hmap, Nat.add_sub_cancel_left,
      List.getD_eq_getElem _ _ (hi.trans_eq (length_transitionMap _).symm),
      ← List.getD_eq_getElem _ false, ← seqBit, seqBit_transitionMap hi]
    rcases Nat.eq_zero_or_pos i with rfl | hpos
    · rw [if_pos rfl, hbit 0 hi]
      exact (if_pos rfl).symm
    · rw [if_neg hpos.ne', if_neg (by omega), hbit i hi, hbit (i - 1) (by omega), Nat.add_sub_assoc hpos]

/-- Bits `k + n - 1` to `k` of a word, masked out or cut out. -/
theorem shiftRight_and_mask_eq_extractLsb' (w : Word) (k n : Nat) :
    (w >>> k) &&& BitVec.ofNat 32 (2 ^ n - 1) = (w.extractLsb' k n).setWidth 32 := by
  refine BitVec.eq_of_getLsbD_eq fun i hi => ?_
  rw [BitVec.getLsbD_and, BitVec.getLsbD_ushiftRight, BitVec.getLsbD_ofNat, Nat.testBit_two_pow_sub_one,
    BitVec.getLsbD_setWidth, BitVec.getLsbD_extractLsb']
  simp [hi, Bool.and_comm]

/-- Settles O50: the command stores the fields it is given, and the default masks cut out the positions of R140. -/
theorem x05infoOutcome : Obligations.X05infoOutcome := by
  intro s
  refine ⟨s.chipInfoOf s.x[0] s.x[1], rfl, fun hchip => ?_⟩
  simp only [State.chipInfoOf, hchip]
  exact ⟨shiftRight_and_mask_eq_extractLsb' _ 1 4, shiftRight_and_mask_eq_extractLsb' _ 5 2,
    shiftRight_and_mask_eq_extractLsb' _ 9 10, trivial⟩

end Sys2Proof.Machine
end

section
/-! SUPPORT. The cascade of X05DEC in terms of the table of R127 (43_em4x05_cascade.md R127 to R130): what the stages
ask and get, the state after some of them have failed, and the two ways the command ends. -/
namespace Sys2Proof.Machine
open Sys2Proof.Claims

variable {s : State} {addr k m n o : Nat} {bs : List Bool} {readCmd : Bool} {kind : Nat → ErrKind} {e : ErrKind}
  {g : Stage} {errs : Vector ErrKind 8} {cs : List OracleCall} {c : OracleCall} {sch : Scheme}
  {bits parent : Option (List Bool)}

/-! ### Commands that end before the cascade (R129) -/

/-- Settles O43: the three tests stand before the cascade, in this order. -/
theorem x05decRefusesBeforeAnyCall : Obligations.X05decRefusesBeforeAnyCall := by
  intro s addr readCmd
  simp only [exec, execX05dec, State.decode05]
  refine ⟨fun hbad => ?_, fun haddr hresp => ?_, fun haddr hresp hempty => ?_⟩
  · rw [if_pos hbad]
    rfl
  · rw [if_neg (not_lt.mpr haddr), hresp]
    rfl
  · rw [if_neg (not_lt.mpr haddr), hresp, if_neg (by decide), if_pos hempty]
    rfl

/-! ### The stages of the table (R127) -/

/-- The calls the stages before stage `k` make. -/
def callsBefore (s : State) : Nat → List OracleCall
  | 0 => []
  | 1 => []
  | k + 2 => callsBefore s (k + 1) ++ (stageRow s (callsBefore s (k + 1)) (fun _ => none) (k + 1)).2

/-- The bits of a stage that makes calls: stages 3 and 5 have none here. -/
def askedBits (s : State) (k : Nat) : Option (List Bool) := (stageRow s (callsBefore s k) (fun _ => none) k).1

/-- The bits of stage `k`. -/
def stageOutput (s : State) (k : Nat) : Option (List Bool) := (stageRow s (callsBefore s k) (askedBits s) k).1

/-- Of the other stages' bits a row of the table uses those of stages 2 and 4. -/
theorem stageRow_congr {f g : Nat → Option (List Bool)} (h2 : f 2 = g 2) (h4 : f 4 = g 4) (s : State)
    (cs : List OracleCall) (k : Nat) : stageRow s cs f k = stageRow s cs g k := by
  unfold stageRow
  rw [h2, h4]

/-- The calls of a row do not depend on the other stages' bits. -/
theorem stageRow_calls (f g : Nat → Option (List Bool)) (s : State) (cs : List OracleCall) (k : Nat) :
    (stageRow s cs f k).2 = (stageRow s cs g k).2 := by
  unfold stageRow
  split <;> rfl

theorem stageOutput_eq (s : State) (k : Nat) :
    stageOutput s k = (stageRow s (callsBefore s k) (stageOutput s) k).1 :=
  congrArg Prod.fst (stageRow_congr rfl rfl s _ k)

theorem callsBefore_succ (s : State) (f : Nat → Option (List Bool)) (hk : 1 ≤ k) :
    callsBefore s (k + 1) = callsBefore s k ++ (stageRow s (callsBefore s k) f k).2 := by
  obtain ⟨k, rfl⟩ := Nat.exists_eq_succ_of_ne_zero (Nat.ne_of_gt hk)
  exact congrArg _ (stageRow_calls _ _ s _ _)

/-- The calls of a cascade in which every collaborator fails: no demodulator is asked that needs a clock (R130). -/
def failedCalls (s : State) : List OracleCall :=
  [.estimateFskClock (visible s), .estimatePskClock (visible s), .estimatePskClock (visible s),
    .demodAsk .manchester (visible s) 0 false s.cfg.maxErr.toNat,
    .demodAsk .biphase (visible s) 0 false s.cfg.maxErr.toNat,
    .demodAsk .biphase (visible s) 0 true s.cfg.maxErr.toNat]

theorem stages_of_no_answer
    (hfsk : clockReply s [] (.estimateFskClock (visible s)) = none)
    (hpsk : clockReply s ((failedCalls s).take 1) (.estimatePskClock (visible s)) = none)
    (hinverted : clockReply s ((failedCalls s).take 2) (.estimatePskClock (visible s)) = none)
    (hmanchester : demodReply s ((failedCalls s).take 3)
      (.demodAsk .manchester (visible s) 0 false s.cfg.maxErr.toNat) = none)
    (hbiphase : demodReply s ((failedCalls s).take 4)
      (.demodAsk .biphase (visible s) 0 false s.cfg.maxErr.toNat) = none)
    (hdiphase : demodReply s ((failedCalls s).take 5)
      (.demodAsk .biphase (visible s) 0 true s.cfg.maxErr.toNat) = none) :
    (∀ k, 1 ≤ k → k ≤ 8 → stageOutput s k = none) ∧ callsBefore s 9 = failedCalls s := by
  simp only [failedCalls, List.take_succ_cons, List.take_zero] at hpsk hinverted hmanchester hbiphase hdiphase
  refine ⟨fun k h1 hk => ?_, ?_⟩
  · interval_cases k <;>
      simp [stageOutput, askedBits, callsBefore, stageRow, estimatedStage, clocklessStage, hfsk, hpsk, hinverted,
        hmanchester, hbiphase, hdiphase]
  · simp [failedCalls, callsBefore, stageRow, estimatedStage, clocklessStage, hfsk, hpsk, hinverted]

/-! ### Asking (R30) -/

/-- An estimator call in terms of the answers still to come (R32, R33). -/
theorem askClock_eq (s : State) (c : OracleCall) :
    s.askClock c = (clockAnswerAt s 0 0 c, { s with calls := s.calls ++ [c], clockIn := s.clockIn.tail }) := by
  refine Prod.ext ?_ (State.askClock_frame s c)
  rcases s.askClock_cases c with ⟨r, rest, hin, he⟩ | ⟨hin, he⟩
  · simp [he, clockAnswerAt, hin]
  · simp [he, clockAnswerAt, hin]

/-- X05DEC under way from `s`: STAGE and STGERR hold `g` and `errs`, and the calls `cs` have been made. -/
def underway (s : State) (addr : Nat) (g : Stage) (errs : Vector ErrKind 8) (cs : List OracleCall) : State :=
  { s with
    addr := BitVec.ofNat 4 addr, stage := g, stgerr := errs, calls := s.calls ++ cs
    clockIn := s.clockIn.drop (cs.countP isEstimate), demodIn := s.demodIn.drop (cs.countP (fun c => !isEstimate c)) }

theorem askDemod_underway (hc : isEstimate c = false) :
    (underway s addr g errs cs).askDemod c = (demodReply s cs c, underway s addr g errs (cs ++ [c])) := by
  rw [askDemod_eq]
  simp [underway, demodReply, demodAnswerAt, hc, List.getElem?_drop, List.tail_drop]

theorem askClock_underway (hc : isEstimate c = true) :
    (underway s addr g errs cs).askClock c = (clockReply s cs c, underway s addr g errs (cs ++ [c])) := by
  rw [askClock_eq]
  simp [underway, clockReply, clockAnswerAt, hc, List.getElem?_drop, List.tail_drop]

theorem estimateThenDemod_underway {estimate : OracleCall} {demod : Nat → OracleCall}
    (hestimate : isEstimate estimate = true) (hdemod : ∀ k, isEstimate (demod k) = false) :
    (underway s addr g errs cs).estimateThenDemod estimate demod =
      ((estimatedStage s cs estimate demod).1,
        underway s addr g errs (cs ++ (estimatedStage s cs estimate demod).2)) := by
  rw [State.estimateThenDemod, askClock_underway hestimate, estimatedStage]
  cases clockReply s cs estimate with
  | none => rfl
  | some k =>
    simp only [askDemod_underway (hdemod k.val), List.append_assoc]
    rfl

/-- A stage of the model is its row of the table, given the bits of the stage before it. -/
theorem stageBits_underway (f : Nat → Option (List Bool)) (hsch : sch.number = n + 1) :
    (underway s addr g errs cs).stageBits sch (visible s) (f n) =
      ((stageRow s cs f sch.number).1, underway s addr g errs (cs ++ (stageRow s cs f sch.number).2)) := by
  cases sch with
  | fsk | psk1 | psk1Inverted =>
    simp only [State.stageBits]
    exact estimateThenDemod_underway rfl fun _ => rfl
  | psk2 | psk2Inverted =>
    cases hsch
    exact Prod.ext rfl (congrArg (underway s addr g errs) (List.append_nil cs).symm)
  | askManchester | askBiphase | askDiphase =>
    exact askDemod_underway rfl

/-! ### How a stage ends (R127, R133) -/

theorem stageFails_or_validates (bits : Option (List Bool)) (readCmd : Bool) :
    (∃ e, StageFails bits readCmd e) ∨ ∃ bs o, bits = some bs ∧ StageValidates bs readCmd o := by
  rcases bits with _ | bs
  · exact .inl ⟨_, .inl ⟨.inl rfl, rfl⟩⟩
  by_cases hempty : bs = []
  · exact .inl ⟨_, .inl ⟨.inr (congrArg some hempty), rfl⟩⟩
  rcases firstPreamble_or_none (seqBit bs) bs.length with ⟨o, hfirst⟩ | hnone
  case inr => exact .inl ⟨_, .inr ⟨bs, rfl, hempty, .inl ⟨hnone, rfl⟩⟩⟩
  cases readCmd with
  | false => exact .inr ⟨bs, o, rfl, hfirst, fun h => by cases h⟩
  | true =>
    by_cases hfit : o + 51 ≤ bs.length
    case neg => exact .inl ⟨_, .inr ⟨bs, rfl, hempty, .inr ⟨rfl, o, hfirst, .inl ⟨not_le.mp hfit, rfl⟩⟩⟩⟩
    by_cases hpass : BlockPasses fun i => seqBit bs (o + 6 + i)
    · exact .inr ⟨bs, o, rfl, hfirst, fun _ => ⟨hfirst, hfit, hpass⟩⟩
    · exact .inl ⟨_, .inr ⟨bs, rfl, hempty, .inr ⟨rfl, o, hfirst, .inr ⟨hfit, hpass, rfl⟩⟩⟩⟩

/-- The payload the test hands on: that of a read. -/
def stagePayload (bs : List Bool) (o : Nat) (readCmd : Bool) : Option (List Bool) :=
  if readCmd then some (readPayload bs o) else none

theorem test05_of_validates (h : StageValidates bs readCmd o) :
    test05 bs readCmd = .ok (o, stagePayload bs o readCmd) := by
  obtain ⟨hfirst, hread⟩ := h
  cases readCmd with
  | false => exact test05_of_acknowledgement (fun _ _ => rfl) hfirst
  | true => exact test05_of_valid_read (fun _ _ => rfl) (hread rfl)

theorem test05_of_fails (h : StageFails (some bs) readCmd e) :
    (bs = [] ∧ e = .demodulatorFailed) ∨ (bs ≠ [] ∧ test05 bs readCmd = .error e) := by
  rcases h with ⟨hnone | hempty, rfl⟩ | ⟨bs', hbs, hne, hwhy⟩
  · cases hnone
  · exact .inl ⟨Option.some.inj hempty, rfl⟩
  obtain rfl := Option.some.inj hbs
  refine .inr ⟨hne, ?_⟩
  rcases hwhy with ⟨hnone, rfl⟩ | ⟨rfl, o, hfirst, ⟨hshort, rfl⟩ | ⟨hfit, hnot, rfl⟩⟩
  · exact test05_of_no_preamble (fun _ _ => rfl) hnone
  · exact test05_of_short (fun _ _ => rfl) hfirst hshort
  · exact test05_of_parity_error (fun _ _ => rfl) hfirst hfit hnot

/-- A stage that fails is noted, and the next has its bits (R128). -/
theorem cascade_of_failed_stage {w : Window} {rest : List Scheme} {t : State}
    (hstage : (s.markTried sch).stageBits sch w parent = (bits, t)) (hfails : StageFails bits readCmd e) :
    State.cascade w readCmd (sch :: rest) parent s = State.cascade w readCmd rest bits (t.stageError sch e) := by
  rw [State.cascade, hstage]
  cases bits with
  | none =>
    rcases hfails with ⟨-, rfl⟩ | ⟨bs, hbs, -⟩
    · rfl
    · cases hbs
  | some bs =>
    rcases test05_of_fails hfails with ⟨rfl, rfl⟩ | ⟨hne, htest⟩
    · rfl
    · simp [hne, htest]

/-- A stage that validates ends the cascade (R127). -/
theorem cascade_of_valid_stage {w : Window} {rest : List Scheme} {t : State}
    (hstage : (s.markTried sch).stageBits sch w parent = (some bs, t)) (hvalid : StageValidates bs readCmd o) :
    State.cascade w readCmd (sch :: rest) parent s = (t.stageWins sch bs o (stagePayload bs o readCmd), none) := by
  have hne : bs.length ≠ 0 := by
    obtain ⟨⟨-, ⟨hfit, -⟩, -⟩, -⟩ := hvalid
    omega
  rw [State.cascade, hstage]
  simp [hne, test05_of_validates hvalid]

/-! ### Stages in turn (R127, R128) -/

/-- STGERR when the first `n` stages have failed, stage `k` with the kind `kind k`. -/
def kindsOf (kind : Nat → ErrKind) (n : Nat) : Vector ErrKind 8 :=
  Vector.ofFn fun i => if i.val < n then kind (i.val + 1) else .none

/-- The first `m` stages have been tried and have asked, and the first `n` have failed. -/
def triedAndFailed (s : State) (addr : Nat) (kind : Nat → ErrKind) (m n : Nat) : State :=
  underway s addr { won := 0, tried := BitVec.ofNat 8 (2 ^ m - 1) } (kindsOf kind n) (callsBefore s (m + 1))

/-- The scheme tried after `n` stages have failed. -/
def schemeAfter (n : Nat) : Scheme := cascadeOrder.getD n .fsk

theorem number_schemeAfter (hn : n < 8) : (schemeAfter n).number = n + 1 := by
  have h : ∀ i : Fin 8, (schemeAfter i).number = i + 1 := by decide
  exact h ⟨n, hn⟩

theorem drop_cascadeOrder (hn : n < 8) : cascadeOrder.drop n = schemeAfter n :: cascadeOrder.drop (n + 1) := by
  have h : ∀ i : Fin 8, cascadeOrder.drop i = schemeAfter i :: cascadeOrder.drop (i + 1) := by decide
  exact h ⟨n, hn⟩

theorem tried_or_next (hn : n < 8) :
    BitVec.ofNat 8 (2 ^ n - 1) ||| 1#8 <<< n = BitVec.ofNat 8 (2 ^ (n + 1) - 1) := by
  have h : ∀ i : Fin 8, BitVec.ofNat 8 (2 ^ (i : Nat) - 1) ||| 1#8 <<< (i : Nat) =
      BitVec.ofNat 8 (2 ^ ((i : Nat) + 1) - 1) := by decide
  exact h ⟨n, hn⟩

theorem kindsOf_succ (kind : Nat → ErrKind) (n : Nat) :
    (kindsOf kind n).setIfInBounds n (kind (n + 1)) = kindsOf kind (n + 1) := by
  ext i hi
  rw [Vector.getElem_setIfInBounds, kindsOf, kindsOf, Vector.getElem_ofFn, Vector.getElem_ofFn]
  rcases eq_or_ne n i with rfl | hne
  · rw [if_pos rfl, if_pos (Nat.lt_succ_self n)]
  · have hiff : i < n + 1 ↔ i < n := by omega
    rw [if_neg hne]
    simp only [hiff]

/-- Trying stage `n + 1` and asking for its bits. -/
theorem stageBits_triedAndFailed (hn : n < 8) :
    ((triedAndFailed s addr kind n n).markTried (schemeAfter n)).stageBits (schemeAfter n) (visible s)
      (stageOutput s n) = (stageOutput s (n + 1), triedAndFailed s addr kind (n + 1) n) := by
  have hsch := number_schemeAfter hn
  have hmark : (triedAndFailed s addr kind n n).markTried (schemeAfter n) =
      underway s addr { won := 0, tried := BitVec.ofNat 8 (2 ^ (n + 1) - 1) } (kindsOf kind n)
        (callsBefore s (n + 1)) := by
    rw [State.markTried, hsch, Nat.add_sub_cancel, ← tried_or_next hn]
    rfl
  rw [hmark, stageBits_underway (stageOutput s) hsch, hsch, ← stageOutput_eq, ← callsBefore_succ s _ (by omega)]
  rfl

theorem stageError_triedAndFailed (hn : n < 8) :
    (triedAndFailed s addr kind (n + 1) n).stageError (schemeAfter n) (kind (n + 1)) =
      triedAndFailed s addr kind (n + 1) (n + 1) := by
  rw [State.stageError, number_schemeAfter hn, Nat.add_sub_cancel, triedAndFailed, triedAndFailed, ← kindsOf_succ]
  rfl

/-- The cascade up to the first stages that fail. -/
theorem cascade_of_fails (hn : n ≤ 8) (hfails : ∀ k, 1 ≤ k → k ≤ n → StageFails (stageOutput s k) readCmd (kind k)) :
    State.cascade (visible s) readCmd cascadeOrder none (triedAndFailed s addr kind 0 0) =
      State.cascade (visible s) readCmd (cascadeOrder.drop n) (stageOutput s n) (triedAndFailed s addr kind n n) := by
  induction n with
  | zero => rfl
  | succ n ih =>
    rw [ih (by omega) fun k h1 hk => hfails k h1 (by omega), drop_cascadeOrder hn,
      cascade_of_failed_stage (stageBits_triedAndFailed hn) (hfails _ (by omega) le_rfl), stageError_triedAndFailed hn]

/-! ### The ends of the command (R127) -/

/-- A legal X05DEC is the cascade from the state in which nothing has been tried. -/
theorem exec_x05dec_eq (kind : Nat → ErrKind) (haddr : addr ≤ 15) (hresp : s.respValid = true)
    (hvisible : s.wbase.toNat < s.wlen.toNat) :
    exec (.x05dec addr readCmd) s =
      .next ((State.cascade (visible s) readCmd cascadeOrder none (triedAndFailed s addr kind 0 0)).conclude
        fun _ => true) := by
  have hkinds : kindsOf kind 0 = Vector.replicate 8 .none := by
    ext i hi
    simp [kindsOf]
  have hstart : triedAndFailed s addr kind 0 0 = { s with
      addr := BitVec.ofNat 4 addr, stage := { won := 0, tried := 0 }, stgerr := Vector.replicate 8 .none } := by
    rw [triedAndFailed, hkinds]
    simp [underway, callsBefore]
  rw [exec_x05dec_eq_cascade haddr hresp hvisible, ← hstart, State.window, State.waveRange_eq_map]
  rfl

/-- The state after stage `n + 1` has won with the bits `bs` and the preamble at `o`. -/
def wonState (s : State) (addr : Nat) (kind : Nat → ErrKind) (n : Nat) (bs : List Bool) (o : Nat) (readCmd : Bool) :
    State :=
  ((triedAndFailed s addr kind (n + 1) n).stageWins (schemeAfter n) bs o (stagePayload bs o readCmd)).done true

theorem exec_x05dec_of_winner (haddr : addr ≤ 15) (hresp : s.respValid = true) (hvisible : s.wbase.toNat < s.wlen.toNat)
    (hn : n < 8) (hfails : ∀ k, 1 ≤ k → k ≤ n → StageFails (stageOutput s k) readCmd (kind k))
    (hbits : stageOutput s (n + 1) = some bs) (hvalid : StageValidates bs readCmd o) :
    exec (.x05dec addr readCmd) s = .next (wonState s addr kind n bs o readCmd) := by
  have hstage := stageBits_triedAndFailed (s := s) (addr := addr) (kind := kind) hn
  rw [hbits] at hstage
  rw [exec_x05dec_eq kind haddr hresp hvisible, cascade_of_fails hn.le hfails, drop_cascadeOrder hn,
    cascade_of_valid_stage hstage hvalid]
  rfl

theorem exec_x05dec_of_no_winner (haddr : addr ≤ 15) (hresp : s.respValid = true)
    (hvisible : s.wbase.toNat < s.wlen.toNat)
    (hfails : ∀ k, 1 ≤ k → k ≤ 8 → StageFails (stageOutput s k) readCmd (kind k)) :
    exec (.x05dec addr readCmd) s = .next (raised (triedAndFailed s addr kind 8 8) .decodeFailed) := by
  rw [exec_x05dec_eq kind haddr hresp hvisible, cascade_of_fails le_rfl hfails]
  rfl

/-- What the winner leaves of the registers, WORD and BITS aside. -/
theorem wonState_eq (hn : n < 8) :
    wonState s addr kind n bs o readCmd = passed
      { underway s addr { won := BitVec.ofNat 4 (n + 1), tried := BitVec.ofNat 8 (2 ^ (n + 1) - 1) } (kindsOf kind n)
          (callsBefore s (n + 2)) with
        preoff := BitVec.ofNat 32 o, word := (wonState s addr kind n bs o readCmd).word, boff := 0
        bits := (wonState s addr kind n bs o readCmd).bits
        blen := if readCmd then 32 else BitVec.ofNat 32 (min bs.length s.params.bmax) } true := by
  simp only [wonState, State.stageWins, number_schemeAfter hn]
  cases readCmd with
  | false => rfl
  | true => rfl

/-- The winner of a read has stored the payload. -/
theorem readStored_wonState (hvalid : StageValidates bs true o) :
    ReadStored (seqBit bs) o s (wonState s addr kind n bs o true) :=
  readStored_of_payload (fun _ _ => rfl) (hvalid.2 rfl) rfl rfl

/-- The winner of a write acknowledgement has stored its own bits, cut to BMAX. -/
theorem bitAt_wonState (i : Nat) :
    (wonState s addr kind n bs o false).bitAt i =
      if i < min bs.length s.params.bmax then seqBit bs i else s.bitAt i := by
  have hstored : (wonState s addr kind n bs o false).bitAt i = (s.writeBits 0 (bs.take s.params.bmax)).bitAt i := rfl
  rw [hstored, bitAt_writeBits_zero, List.length_take, min_comm]
  split
  · next hi => exact bitOf_take (lt_min_iff.mp hi).2
  · rfl

/-- The stages fail up to the first that validates, if there is one. -/
theorem failing_stages (s : State) (readCmd : Bool) : ∃ (kind : Nat → ErrKind) (n : Nat), n ≤ 8 ∧
    (∀ k, 1 ≤ k → k ≤ n → StageFails (stageOutput s k) readCmd (kind k)) ∧
    (n < 8 → ∃ bs o, stageOutput s (n + 1) = some bs ∧ StageValidates bs readCmd o) := by
  have hends : ∀ k, ∃ e, StageFails (stageOutput s k) readCmd e ∨
      ∃ bs o, stageOutput s k = some bs ∧ StageValidates bs readCmd o := fun k => by
    rcases stageFails_or_validates (stageOutput s k) readCmd with ⟨e, hfails⟩ | hvalid
    · exact ⟨e, .inl hfails⟩
    · exact ⟨.none, .inr hvalid⟩
  choose kind hkind using hends
  have hupTo (m : Nat) : ∃ n ≤ m, (∀ k, 1 ≤ k → k ≤ n → StageFails (stageOutput s k) readCmd (kind k)) ∧
      (n < m → ∃ bs o, stageOutput s (n + 1) = some bs ∧ StageValidates bs readCmd o) := by
    induction m with
    | zero => exact ⟨0, le_rfl, fun k h1 hk => by omega, fun h => by omega⟩
    | succ m ih =>
      obtain ⟨n, hn, hfails, hwins⟩ := ih
      rcases hn.lt_or_eq with hlt | rfl
      · exact ⟨n, by omega, hfails, fun _ => hwins hlt⟩
      rcases hkind (n + 1) with hlast | hvalid
      · refine ⟨n + 1, le_rfl, fun k h1 hk => ?_, fun h => by omega⟩
        rcases hk.lt_or_eq with hlt | rfl
        · exact hfails k h1 (by omega)
        · exact hlast
      · exact ⟨n, by omega, hfails, fun _ => hvalid⟩
  exact ⟨kind, hupTo 8⟩

/-! ### The obligations -/

/-- Settles O58: the stages' bits and calls are those of `stageOutput` and `callsBefore`, and the command ends at the
first that validates. -/
theorem x05decEndsAtTheFirstStageThatValidates : Obligations.X05decEndsAtTheFirstStageThatValidates := by
  intro s addr readCmd haddr hresp hvisible
  refine ⟨psk1ToPsk2_eq_transitionMap, ?_⟩
  obtain ⟨kind, n, hn, hfails, hwins⟩ := failing_stages s readCmd
  have hrows : ∀ k, 1 ≤ k → k ≤ min (n + 1) 8 → stageOutput s k = (stageRow s (callsBefore s k) (stageOutput s) k).1 ∧
      callsBefore s (k + 1) = callsBefore s k ++ (stageRow s (callsBefore s k) (stageOutput s) k).2 :=
    fun k hk _ => ⟨stageOutput_eq s k, callsBefore_succ s _ hk⟩
  have hlost : ∀ k, 1 ≤ k → k < n + 1 → StageFails (stageOutput s k) readCmd (kind k) :=
    fun k h1 hk => hfails k h1 (by omega)
  have hkinds : ∀ k, (hk : k < 8) → (kindsOf kind n)[k] = if k + 1 < n + 1 then kind (k + 1) else .none :=
    fun k hk => by simp [kindsOf]
  rcases hn.lt_or_eq with hlt | rfl
  · obtain ⟨bs, o, hbits, hvalid⟩ := hwins hlt
    have hend := wonState_eq (s := s) (addr := addr) (kind := kind) (bs := bs) (o := o) (readCmd := readCmd) hlt
    have hstgerr : (wonState s addr kind n bs o readCmd).stgerr = kindsOf kind n := congrArg State.stgerr hend
    refine ⟨stageOutput s, callsBefore s, kind, n + 1, wonState s addr kind n bs o readCmd, by omega, by omega, rfl,
      hrows, hlost, exec_x05dec_of_winner haddr hresp hvisible hlt hfails hbits hvalid, fun k hk => ?_,
      fun h9 => by omega, fun _ => ⟨bs, o, hbits, hvalid, ?_, fun hread => ?_, fun hack => ?_⟩⟩
    · simp only [hstgerr]
      exact hkinds k hk
    · rw [hstgerr, min_eq_left (show n + 1 ≤ 8 from hlt)]
      exact hend
    · subst hread
      exact readStored_wonState hvalid
    · subst hack
      exact ⟨rfl, bitAt_wonState⟩
  · exact ⟨stageOutput s, callsBefore s, kind, 9, raised (triedAndFailed s addr kind 8 8) .decodeFailed, by omega,
      le_rfl, rfl, hrows, hlost, exec_x05dec_of_no_winner haddr hresp hvisible hfails, hkinds, fun _ => rfl,
      fun h => by omega⟩

/-- Settles O44: the first stage has no clock, and the second wins. -/
theorem x05decReadSucceedsAtPsk1 : Obligations.X05decReadSucceedsAtPsk1 := by
  intro s addr o k bs haddr hresp hvisible hfsk hpsk hanswer hvalid
  replace hfsk : clockReply s [] (.estimateFskClock (visible s)) = none := hfsk
  replace hpsk : clockReply s [.estimateFskClock (visible s)] (.estimatePskClock (visible s)) = some k := hpsk
  have hcalls : callsBefore s 3 =
      [.estimateFskClock (visible s), .estimatePskClock (visible s), .demodPsk (visible s) k.val 1 false] := by
    simp [callsBefore, stageRow, estimatedStage, hfsk, hpsk]
  have hfirst : stageOutput s 1 = none := by
    simp [stageOutput, callsBefore, stageRow, estimatedStage, hfsk]
  have hsecond : stageOutput s 2 = some bs := by
    simp only [stageOutput, callsBefore, stageRow, estimatedStage, hfsk, List.nil_append, hpsk]
    exact hanswer
  have hvalidates : StageValidates bs true o := ⟨hvalid.1, fun _ => hvalid⟩
  have hfails : ∀ k, 1 ≤ k → k ≤ 1 → StageFails (stageOutput s k) true .demodulatorFailed := fun k h1 hk => by
    rw [le_antisymm hk h1, hfirst]
    exact .inl ⟨.inl rfl, rfl⟩
  refine ⟨_, exec_x05dec_of_winner (kind := fun _ => .demodulatorFailed) haddr hresp hvisible (by decide) hfails hsecond
    hvalidates, ?_, readStored_wonState hvalidates⟩
  rw [wonState_eq (by decide), hcalls]
  rfl

/-- Settles O45: the first stage wins. -/
theorem x05decAcknowledgesAtFsk : Obligations.X05decAcknowledgesAtFsk := by
  intro s addr o k bs haddr hresp hvisible hfsk hanswer hfirst
  replace hfsk : clockReply s [] (.estimateFskClock (visible s)) = some k := hfsk
  have hcalls : callsBefore s 2 = [.estimateFskClock (visible s), .demodFsk (visible s) k.val] := by
    simp [callsBefore, stageRow, estimatedStage, hfsk]
  have hbits : stageOutput s 1 = some bs := by
    simp only [stageOutput, callsBefore, stageRow, estimatedStage, hfsk]
    exact hanswer
  refine ⟨_, exec_x05dec_of_winner (kind := fun _ => .none) haddr hresp hvisible (by decide)
    (fun k h1 hk => by omega) hbits ⟨hfirst, fun h => by cases h⟩, ?_, bitAt_wonState⟩
  rw [wonState_eq (by decide), hcalls]
  rfl

/-- Settles O46: the stages in turn have no bits, those before the sixth for want of a clock. -/
theorem x05decFailsWhenEveryStageFails : Obligations.X05decFailsWhenEveryStageFails := by
  intro s addr readCmd haddr hresp hvisible hfsk hpsk hinverted hmanchester hbiphase hdiphase
  obtain ⟨hbits, hcalls⟩ := stages_of_no_answer hfsk hpsk hinverted hmanchester hbiphase hdiphase
  rw [exec_x05dec_of_no_winner (kind := fun _ => .demodulatorFailed) haddr hresp hvisible
    fun k h1 hk => .inl ⟨.inl (hbits k h1 hk), rfl⟩, triedAndFailed, hcalls]
  rfl

end Sys2Proof.Machine
end

section
/-! SUPPORT. The Frame Codec EM410x (44_em410x_frame.md R150, R152, R160): the ID's two registers and E410WCHK, and the
bits of a frame by their positions. -/
namespace Sys2Proof.Machine
open Sys2Proof.Claims

variable {id n j k : Nat}

/-! ### The ID (30_encoding.md R61) -/

/-- The two registers of the ID as one word. -/
theorem State.toNat_append_eq_id64 (s : State) : (s.x[1] ++ s.x[0]).toNat = s.id64 := by
  rw [BitVec.toNat_append, State.id64, ← Nat.shiftLeft_eq, Nat.shiftLeft_add_eq_or_of_lt s.x[0].isLt]

/-- Data bit `j` of nibble `n` is bit `39 - 4n - j` of the ID (R152). -/
theorem idBit_eq_testBit (hn : n < 10) (hj : j < 4) : idBit id n j = id.testBit (39 - 4 * n - j) := by
  have hlow : 3 - j < 4 := by omega
  rw [idBit, show 16 = 2 ^ 4 from rfl, Nat.testBit_mod_two_pow, Nat.testBit_div_two_pow, decide_eq_true hlow,
    Bool.true_and, show 3 - j + (36 - 4 * n) = 39 - 4 * n - j by omega]

/-! ### E410WCHK (R160) -/

/-- Settles O54: the clock is tested before the ID, and both tests raise the same error. -/
theorem e410wchkOutcome : Obligations.E410wchkOutcome := by
  intro s clk
  simp only [State.toNat_append_eq_id64]
  refine ⟨fun hclk hid => (if_neg (not_not.mpr hclk)).trans (if_neg (not_le.mpr hid)), fun hbad => ?_⟩
  by_cases hclk : clk ∈ writeClocks
  · exact (if_neg (not_not.mpr hclk)).trans (if_pos (hbad.resolve_left (not_not.mpr hclk)))
  · exact if_pos hclk

/-! ### The bits of a frame (R150, R152) -/

/-- Entry `i` of the `k`-th of the equally long parts of a sequence. -/
theorem getD_flatMap_of_length {α β : Type} {f : α → List β} {l : List α} {m k i : Nat} {d : β}
    (hlen : ∀ a, (f a).length = m) (hk : k < l.length) (hi : i < m) :
    (l.flatMap f).getD (k * m + i) d = (f l[k]).getD i d := by
  induction l generalizing k with
  | nil => exact absurd hk (Nat.not_lt_zero k)
  | cons a l ih =>
    cases k with
    | zero => rw [List.flatMap_cons, Nat.zero_mul, Nat.zero_add, List.getD_append _ _ _ _ (by rwa [hlen])]; rfl
    | succ k =>
      rw [List.flatMap_cons, List.getD_append_right _ _ _ _ (by rw [hlen, Nat.succ_mul]; omega), hlen,
        show (k + 1) * m + i - m = k * m + i by rw [Nat.succ_mul]; omega, ih (Nat.lt_of_succ_lt_succ hk)]
      rfl

theorem length_frameRow (id n : Nat) : (frameRow id n).length = 5 := rfl

theorem bitOf_frameRow_data (hj : j < 4) : bitOf (frameRow id n) j = idBit id n j := by
  rw [frameRow, bitOf, List.getD_append _ _ _ _ (by simpa using hj)]
  simp [hj]

theorem bitOf_frameRow_parity (id n : Nat) : bitOf (frameRow id n) 4 = xorTo 4 (idBit id n) := rfl

theorem bitOf_frame410_header (id : Nat) (hk : k < 9) : bitOf (frame410 id) k = true := by
  rw [frame410, bitOf, List.append_assoc, List.append_assoc, List.getD_append _ _ _ _ (by simpa using hk),
    List.getD_replicate _ hk]

theorem bitOf_frame410_row (hn : n < 10) (hj : j < 5) :
    bitOf (frame410 id) (9 + 5 * n + j) = bitOf (frameRow id n) j := by
  have hlen : ((List.range 10).flatMap (frameRow id)).length = 50 := by simp [length_frameRow]
  simp only [frame410, bitOf, List.append_assoc]
  rw [List.getD_append_right _ _ _ _ (by rw [List.length_replicate]; omega), List.length_replicate,
    List.getD_append _ _ _ _ (by rw [hlen]; omega), show 9 + 5 * n + j - 9 = n * 5 + j by omega,
    getD_flatMap_of_length (length_frameRow id) (by simpa using hn) hj, List.getElem_range]

theorem bitOf_frame410_columns (hj : j < 4) :
    bitOf (frame410 id) (59 + j) = xorTo 10 fun n => idBit id n j := by
  have hlen : (List.replicate 9 true ++ (List.range 10).flatMap (frameRow id)).length = 59 := by
    simp [length_frameRow]
  rw [frame410, bitOf, List.append_assoc, List.getD_append_right _ _ _ _ (by omega), hlen, Nat.add_sub_cancel_left,
    List.getD_append _ _ _ _ (by simpa using hj)]
  simp [hj]

theorem bitOf_frame410_stop (id : Nat) : bitOf (frame410 id) 63 = false := rfl

theorem bitOf_frame410_data (hn : n < 10) (hj : j < 4) :
    bitOf (frame410 id) (9 + 5 * n + j) = id.testBit (39 - 4 * n - j) := by
  rw [bitOf_frame410_row hn (by omega), bitOf_frameRow_data hj, idBit_eq_testBit hn hj]

/-- Each row ends in the XOR of its data bits, so its XOR is 0. -/
theorem xorTo_row_frame410 (id : Nat) (hn : n < 10) :
    xorTo 5 (fun j => bitOf (frame410 id) (9 + 5 * n + j)) = false := by
  rw [xorTo_succ, xorTo_congr fun j hj => (bitOf_frame410_row hn (by omega)).trans (bitOf_frameRow_data hj),
    bitOf_frame410_row hn (by omega), bitOf_frameRow_parity, Bool.xor_self]

/-- Each column ends in the XOR of its data bits, so its XOR is 0. -/
theorem xorTo_column_frame410 (id : Nat) (hj : j < 4) :
    xorTo 11 (fun n => bitOf (frame410 id) (9 + 5 * n + j)) = false := by
  rw [xorTo_succ, xorTo_congr fun n hn => (bitOf_frame410_row hn (by omega)).trans (bitOf_frameRow_data hj),
    bitOf_frame410_columns hj, Bool.xor_self]

end Sys2Proof.Machine
end

section
/-! SUPPORT. E410ENC (44_em410x_frame.md R151, R153): the samples it writes and the state it leaves. -/
namespace Sys2Proof.Machine
open Sys2Proof.Claims

variable {s : State} {clk k : Nat}

/-- Sample `i` of bit `k` of a frame. -/
theorem State.getD_frameSamples (s : State) {clk i : Nat} (frame : List Bool) (hk : k < frame.length) (hi : i < clk)
    (d : Int) :
    (s.frameSamples clk frame).getD (k * clk + i) d = s.storedSample (s.pulseShape (bitOf frame k) clk i) := by
  rw [State.frameSamples, getD_flatMap_of_length (m := clk) (fun b => by simp) hk hi, bitOf,
    List.getD_eq_getElem _ _ hk]
  simp [hi]

theorem waveAt_writeWave_frameSamples (s t : State) {clk i : Nat} (frame : List Bool) (hk : k < frame.length)
    (hi : i < clk) : (t.writeWave 0 (s.frameSamples clk frame)).waveAt (k * clk + i) =
      s.storedSample (s.pulseShape (bitOf frame k) clk i) := by
  have hinside : k * clk + i < 0 + (s.frameSamples clk frame).length := by
    rw [Nat.zero_add, State.length_frameSamples]
    exact matrix_index_lt hk hi
  rw [State.waveAt_writeWave, if_pos ⟨Nat.zero_le _, hinside⟩, Nat.sub_zero, State.getD_frameSamples s frame hk hi]

/-- The default shape has the samples 0 and 1, which every width of 2 bits or more holds (G3, log 17). -/
theorem inSampleRange_pulseShape (hshape : s.params.pulseShape = .standard)
    (hwidth : ∀ w, s.params.sampleWidth = some w → 2 ≤ w) (b : Bool) (clk i : Nat) :
    InSampleRange s (s.pulseShape b clk i) := by
  have hbit (c : Bool) : (0 : Int) ≤ (c.toNat : Int) ∧ (c.toNat : Int) < 2 := by cases c <;> decide
  have hshape01 : 0 ≤ s.pulseShape b clk i ∧ s.pulseShape b clk i < 2 := by
    simp only [State.pulseShape, hshape]
    split
    · exact hbit (!b)
    · exact hbit b
  intro w hw
  have hpow : (2 : Int) ^ 1 ≤ 2 ^ (w - 1) := pow_le_pow_right₀ (by decide) (Nat.le_sub_one_of_lt (hwidth w hw))
  omega

/-- What E410ENC leaves when it raises no error (R151). -/
def encoded (s : State) (clk : Nat) : State :=
  (({ s with blen := 64, boff := 0, wlen := toReg (64 * clk), wbase := 0 }.writeBits 0 (frame410 s.id64)).writeWave 0
    (s.frameSamples clk (frame410 s.id64))).done true

theorem exec_e410enc_eq_encoded (hid : s.id64 < 2 ^ 40) (hclk : clk ∈ candidates) (hfit : 64 * clk ≤ s.params.wmax) :
    exec (.e410enc clk) s = .next (encoded s clk) :=
  (if_neg (not_le.mpr hid)).trans ((if_neg (not_not.mpr hclk)).trans (if_neg (not_lt.mpr hfit)))

theorem bitAt_encoded (s : State) (clk k : Nat) :
    (encoded s clk).bitAt k = if k < 64 then bitOf (frame410 s.id64) k else s.bitAt k := by
  rw [← length_frame410 s.id64]
  exact bitAt_writeBits_zero _ _ k

theorem waveAt_encoded {i : Nat} (hk : k < 64) (hi : i < clk) :
    (encoded s clk).waveAt (k * clk + i) = s.storedSample (s.pulseShape ((encoded s clk).bitAt k) clk i) := by
  rw [bitAt_encoded, if_pos hk]
  exact waveAt_writeWave_frameSamples s _ _ (hk.trans_eq (length_frame410 _).symm) hi

theorem waveAt_encoded_above {i : Nat} (hi : 64 * clk ≤ i) : (encoded s clk).waveAt i = s.waveAt i := by
  refine (State.waveAt_writeWave _ _ _ i).trans (if_neg fun ⟨_, hlt⟩ => ?_)
  rw [State.length_frameSamples, length_frame410] at hlt
  omega

/-- Settles O51: an error is one of the three tests; else the frame's bits and samples are read off `encoded`. -/
theorem e410encOutcome : Obligations.E410encOutcome := by
  intro s clk
  simp only [State.toNat_append_eq_id64]
  have hbit (k : Nat) (hk : k < 64) : (encoded s clk).bitAt k = bitOf (frame410 s.id64) k :=
    (bitAt_encoded s clk k).trans (if_pos hk)
  refine ⟨fun hid => if_pos hid, fun hclk => ?_, fun hid hclk hlong => ?_, fun hid hclk hfit =>
    ⟨encoded s clk, exec_e410enc_eq_encoded hid hclk hfit, rfl, fun k hk => ?_, fun n j hn hj => ?_, fun n hn => ?_,
      fun j hj => ?_, ?_, fun k hk => ?_, fun k i hk hi => ?_, fun i => waveAt_encoded_above⟩⟩
  · by_cases hid : idLimit ≤ s.id64
    · exact if_pos hid
    · exact (if_neg hid).trans (if_pos hclk)
  · exact (if_neg (not_le.mpr hid)).trans ((if_neg (not_not.mpr hclk)).trans (if_pos hlong))
  · rw [hbit k (by omega), bitOf_frame410_header _ hk]
  · rw [hbit _ (by omega), bitOf_frame410_data hn hj, ← State.toNat_append_eq_id64]
    rfl
  · refine xorTo_eq_iff (pt := false).mp ?_
    rw [xorTo_congr fun j hj => hbit (9 + 5 * n + j) (by omega), xorTo_row_frame410 _ hn]
  · refine xorTo_eq_iff (pt := false).mp ?_
    rw [xorTo_congr fun n hn => hbit (9 + 5 * n + j) (by omega), xorTo_column_frame410 _ hj]
  · rw [hbit 63 (by decide), bitOf_frame410_stop]
  · exact (bitAt_encoded s clk k).trans (if_neg (not_lt.mpr hk))
  · have hstored (hin : InSampleRange s (s.pulseShape ((encoded s clk).bitAt k) clk i)) :
        (encoded s clk).waveAt (k * clk + i) = s.pulseShape ((encoded s clk).bitAt k) clk i :=
      (waveAt_encoded hk hi).trans (State.storedSample_of_fits ((sampleFits_iff_inSampleRange _ _).mpr hin))
    refine ⟨?_, hstored, fun hshape hwidth => ?_⟩
    · rw [waveAt_encoded hk hi]
      exact (sampleFits_iff_inSampleRange _ _).mp (s.storedSample_fits _)
    · rw [hstored (inSampleRange_pulseShape hshape hwidth _ _ _)]
      simp only [State.pulseShape, hshape]

end Sys2Proof.Machine
end

section
/-! SUPPORT. E410DEC (44_em410x_frame.md R156, R158): its tests in terms of the bits from BOFF on, the ID it reads, and
the round trip with E410ENC (R157). -/
namespace Sys2Proof.Machine
open Sys2Proof.Claims

variable {s : State} {n j k : Nat}

/-! ### The tests (R156) -/

/-- The 64 bits E410DEC tests. -/
def frameBits (s : State) : List Bool := s.visibleBits.take 64

theorem length_frameBits_lt_iff (s : State) :
    s.bitsMissing = true ∨ (frameBits s).length < 64 ↔ s.blen.toNat < s.boff.toNat + 64 := by
  rw [State.bitsMissing, decide_eq_true_eq, frameBits, List.length_take, s.length_visibleBits]
  omega

section
variable (hfit : ¬ s.blen.toNat < s.boff.toNat + 64)
include hfit

theorem length_frameBits : (frameBits s).length = 64 := by
  rw [frameBits, List.length_take, s.length_visibleBits]
  omega

theorem bitOf_frameBits (hk : k < 64) : bitOf (frameBits s) k = offsetBit s k := by
  rw [frameBits, bitOf_take hk, s.bitOf_visibleBits (by rw [s.length_visibleBits]; omega)]

theorem header_frameBits_iff :
    (frameBits s).take 9 = List.replicate 9 true ↔ ∀ k, k < 9 → offsetBit s k = true := by
  have hheader : (frameBits s).take 9 = (List.range 9).map (offsetBit s) := by
    have htake := take_drop_eq_map (bs := frameBits s) (o := 0) (n := 9) (by rw [length_frameBits hfit]; decide)
    rw [List.drop_zero] at htake
    rw [htake]
    refine List.map_congr_left fun k hk => ?_
    rw [Nat.zero_add, bitOf_frameBits hfit (by have := List.mem_range.mp hk; omega)]
  rw [hheader, List.eq_replicate_iff]
  simp

/-- The rows and columns after the header are a matrix of 11 by 5 bits. -/
theorem matrix_frameBits : 11 * 5 ≤ ((frameBits s).drop 9).length ∧
    ∀ i < 11 * 5, bitOf ((frameBits s).drop 9) i = offsetBit s (9 + i) := by
  refine ⟨by rw [List.length_drop, length_frameBits hfit], fun i hi => ?_⟩
  rw [bitOf_drop, bitOf_frameBits hfit (by omega)]

theorem rows_frameBits_iff : rowParityTest ((frameBits s).drop 9) 11 5 false = .holds ↔
    RowsPass (fun i => offsetBit s (9 + i)) 11 5 false :=
  rowParityTest_eq_holds_iff (matrix_frameBits hfit).1 (matrix_frameBits hfit).2

theorem columns_frameBits_iff : colParityTest ((frameBits s).drop 9) 11 5 false = .holds ↔
    ColsPass (fun i => offsetBit s (9 + i)) 11 5 false :=
  colParityTest_eq_holds_iff (matrix_frameBits hfit).1 (matrix_frameBits hfit).2

variable (hxl : s.xlhi = 0)
include hxl

theorem exec_e410dec_of_frame_error (hbad : ¬ ((∀ k, k < 9 → offsetBit s k = true) ∧ offsetBit s 63 = false)) :
    exec .e410dec s = .next (raised (e410Cleared s) .frameError) := by
  refine (if_neg (not_not.mpr hxl)).trans ((if_neg ((length_frameBits_lt_iff s).not.mpr hfit)).trans ?_)
  by_cases hheader : ∀ k, k < 9 → offsetBit s k = true
  · have hstop : offsetBit s 63 = true := Bool.eq_true_of_not_eq_false fun hzero => hbad ⟨hheader, hzero⟩
    exact (if_neg (not_not.mpr ((header_frameBits_iff hfit).mpr hheader))).trans
      (if_pos ((bitOf_frameBits hfit (by decide)).trans hstop))
  · exact if_pos ((header_frameBits_iff hfit).not.mpr hheader)

variable (hheader : ∀ k, k < 9 → offsetBit s k = true) (hstop : offsetBit s 63 = false)
include hheader hstop

/-- With the header and the stop bit in place the parity tests decide. -/
theorem exec_e410dec_of_framed : exec .e410dec s =
    if rowParityTest ((frameBits s).drop 9) 11 5 false ≠ .holds then
      .next (raised (e410Cleared s) .parityFailed)
    else if colParityTest ((frameBits s).drop 9) 11 5 false ≠ .holds then
      .next (raised (e410Cleared s) .parityFailed)
    else .next (passed
      { s with
        idlo := toReg (frameId (frameBits s)), idhi := BitVec.ofNat 8 (frameId (frameBits s) / 2 ^ 32)
        status := { s.status with found := true, idValid := true } } true) :=
  (if_neg (not_not.mpr hxl)).trans ((if_neg ((length_frameBits_lt_iff s).not.mpr hfit)).trans
    ((if_neg (not_not.mpr ((header_frameBits_iff hfit).mpr hheader))).trans
      (if_neg (ne_true_of_eq_false ((bitOf_frameBits hfit (by decide)).trans hstop)))))

end

/-! ### The ID (R156) -/

/-- A sum of bits, the first most significant, doubles with each further bit. -/
theorem sumTo_msbFirst_succ (bit : Nat → Bool) (n : Nat) :
    sumTo (n + 1) (fun i => bitAtPos (bit i) (n - i)) =
      2 * sumTo n (fun i => bitAtPos (bit i) (n - 1 - i)) + (bit n).toNat := by
  have hdouble (m : Nat) (g : Nat → Nat) : sumTo m (fun i => 2 * g i) = 2 * sumTo m g := by
    induction m with
    | zero => rfl
    | succ m ih => rw [sumTo_succ, sumTo_succ, ih, Nat.mul_add]
  rw [sumTo_succ, ← hdouble, Nat.sub_self, bitAtPos, Nat.pow_zero, Nat.mul_one]
  refine congrArg (· + (bit n).toNat) (sumTo_congr fun i hi => ?_)
  rw [bitAtPos, bitAtPos, show n - i = n - 1 - i + 1 by omega, Nat.pow_succ]
  ring

/-- Bit `i` of `n` is read back from the sum at position `n - 1 - i`. -/
theorem testBit_sumTo_msbFirst (bit : Nat → Bool) {i : Nat} (hi : i < n) :
    (sumTo n fun i => bitAtPos (bit i) (n - 1 - i)).testBit (n - 1 - i) = bit i := by
  induction n with
  | zero => exact absurd hi (Nat.not_lt_zero i)
  | succ n ih =>
    rw [Nat.add_sub_cancel, sumTo_msbFirst_succ]
    rcases Nat.lt_succ_iff_lt_or_eq.mp hi with hlt | rfl
    · have hhalf (x : Nat) : (2 * x + (bit n).toNat) / 2 = x := by have := (bit n).toNat_le; omega
      rw [show n - i = n - 1 - i + 1 by omega, Nat.testBit_succ, hhalf, ih hlt]
    · rw [Nat.sub_self, Nat.testBit_zero]
      cases bit i <;> simp

/-- The ID is the 40 data bits, the first most significant (R156). -/
theorem testBit_frameId (f : List Bool) (hn : n < 10) (hj : j < 4) :
    (frameId f).testBit (39 - 4 * n - j) = bitOf f (9 + 5 * n + j) := by
  have hsum : frameId f = sumTo 40 fun i => bitAtPos (bitOf f (9 + 5 * (i / 4) + i % 4)) (40 - 1 - i) := by
    rw [frameId, sumTo_rows]
    refine sumTo_congr fun i hi => ?_
    rw [show 39 - 4 * (i / 4) - i % 4 = 40 - 1 - i by omega]
  rw [hsum, show 39 - 4 * n - j = 40 - 1 - (4 * n + j) by omega, testBit_sumTo_msbFirst _ (by omega),
    show (4 * n + j) / 4 = n by omega, show (4 * n + j) % 4 = j by omega]

/-- The two registers hold the low and the high part of a 40-bit ID. -/
theorem idRegisters_eq (m : Nat) : toReg m = (BitVec.ofNat 40 m).extractLsb' 0 32 ∧
    BitVec.ofNat 8 (m / 2 ^ 32) = (BitVec.ofNat 40 m).extractLsb' 32 8 := by
  refine ⟨BitVec.eq_of_toNat_eq ?_, BitVec.eq_of_toNat_eq ?_⟩
  · rw [toReg, BitVec.extractLsb'_toNat, BitVec.toNat_ofNat, BitVec.toNat_ofNat, Nat.shiftRight_zero]
    omega
  · rw [BitVec.extractLsb'_toNat, BitVec.toNat_ofNat, BitVec.toNat_ofNat, Nat.shiftRight_eq_div_pow]
    omega

/-- Settles O52: the tests in their order, each put in terms of the bits from BOFF on. -/
theorem e410decOutcome : Obligations.E410decOutcome := by
  intro s
  refine ⟨fun hxl => if_pos hxl,
    fun hxl hshort => (if_neg (not_not.mpr hxl)).trans (if_pos ((length_frameBits_lt_iff s).mpr hshort)),
    fun hxl hfit hbad => exec_e410dec_of_frame_error hfit hxl hbad, fun hxl hfit hheader hstop hbad => ?_,
    fun hxl hfit hheader hstop hparity => ⟨BitVec.ofNat 40 (frameId (frameBits s)), fun n j hn hj => ?_, ?_⟩⟩
  · rw [exec_e410dec_of_framed hfit hxl hheader hstop]
    by_cases hrows : rowParityTest ((frameBits s).drop 9) 11 5 false = .holds
    · refine (if_neg (not_not.mpr hrows)).trans (if_pos fun hcols => hbad ?_)
      exact ⟨(rows_frameBits_iff hfit).mp hrows, (columns_frameBits_iff hfit).mp hcols⟩
    · exact if_pos hrows
  · have hposition : 39 - 4 * n - j < 40 := by omega
    rw [BitVec.getLsbD_ofNat, decide_eq_true hposition, Bool.true_and, testBit_frameId _ hn hj,
      bitOf_frameBits hfit (by omega)]
  · obtain ⟨hrows, hcols⟩ := hparity
    obtain ⟨hidlo, hidhi⟩ := idRegisters_eq (frameId (frameBits s))
    rw [exec_e410dec_of_framed hfit hxl hheader hstop, if_neg (not_not.mpr ((rows_frameBits_iff hfit).mpr hrows)),
      if_neg (not_not.mpr ((columns_frameBits_iff hfit).mpr hcols)), hidlo, hidhi]

/-! ### Encoding and decoding (R157) -/

/-- A 40-bit number whose data bits are those of an ID below 2^40 is the ID. -/
theorem toNat_eq_of_idBits {w : BitVec 40} {v : BitVec 64} (hv : v.toNat < 2 ^ 40)
    (hbits : ∀ n j, n < 10 → j < 4 → w.getLsbD (39 - 4 * n - j) = v.getLsbD (39 - 4 * n - j)) : w.toNat = v.toNat := by
  have hlow : w = v.setWidth 40 := by
    refine BitVec.eq_of_getLsbD_eq fun m hm => ?_
    have hposition := hbits ((39 - m) / 4) ((39 - m) % 4) (by omega) (by omega)
    rw [show 39 - 4 * ((39 - m) / 4) - (39 - m) % 4 = m by omega] at hposition
    rw [hposition, BitVec.getLsbD_setWidth, decide_eq_true hm, Bool.true_and]
  rw [hlow, BitVec.toNat_setWidth, Nat.mod_eq_of_lt hv]

/-- Settles O53: the frame E410ENC leaves meets every test of E410DEC, whose ID then has the bits of x[1]:x[0]. -/
theorem e410RoundTrip : Obligations.E410RoundTrip := by
  intro s clk hid hclk hfit hxl
  have hid' : (s.x[1] ++ s.x[0]).toNat < 2 ^ 40 := (State.toNat_append_eq_id64 s).trans_lt hid
  obtain ⟨-, -, -, henc⟩ := e410encOutcome s clk
  obtain ⟨t, hexec, ht, hheader, hdata, hrows, hcols, hstop, -⟩ := henc hid' hclk hfit
  have hboff : t.boff = 0 := by rw [ht]; rfl
  have hblen : t.blen = 64 := by rw [ht]; rfl
  have hxl' : t.xlhi = 0 := by rw [ht]; exact hxl
  have hbit (i : Nat) : offsetBit t i = t.bitAt i := by rw [offsetBit, hboff]; exact congrArg t.bitAt (Nat.zero_add i)
  obtain ⟨-, -, -, -, hdec⟩ := e410decOutcome t
  simp only [hbit] at hdec
  obtain ⟨id, hidbits, hexec'⟩ := hdec hxl' (by rw [hblen, hboff]; decide) hheader hstop
    ⟨fun r hr => by simp only [Nat.mul_comm r, ← Nat.add_assoc]; exact hrows r (by omega),
      fun c hc => by simp only [Nat.mul_comm _ 5, ← Nat.add_assoc]; exact hcols c (by omega)⟩
  have hnat : id.toNat = s.x[1].toNat * 2 ^ 32 + s.x[0].toNat :=
    (toNat_eq_of_idBits hid' fun n j hn hj => (hidbits n j hn hj).trans (hdata n j hn hj)).trans
      (State.toNat_append_eq_id64 s)
  have hlo := s.x[0].isLt
  refine ⟨t, _, hexec, hexec', rfl, rfl, rfl, rfl, BitVec.eq_of_toNat_eq ?_, ?_⟩
  · show (id.extractLsb' 0 32).toNat = s.x[0].toNat
    rw [BitVec.extractLsb'_toNat, hnat, Nat.shiftRight_zero]
    omega
  · show (id.extractLsb' 32 8).toNat = s.x[1].toNat
    rw [BitVec.extractLsb'_toNat, hnat, Nat.shiftRight_eq_div_pow]
    omega

end Sys2Proof.Machine
end

section
/-! SUPPORT. How commands end (60_exceptions.md R172 to R174): by `raise` with an error kind, or by `done` with ERRSEEN
as the command found it. -/
namespace Sys2Proof.Machine
open Sys2Proof.Claims

/-- A command other than RST that starts in `s` ends in a report: `raise K` with an error kind (R172), or `done(p)`
(R173), where only PULSES and X50READ choose `p` and nothing before has touched ERRSEEN. -/
inductive Reports (i : Instr) (s : State) : Host.Outcome State Fault Refusal → Prop where
  | raise (u : State) {k : ErrKind} (hk : k ≠ .none := by decide) : Reports i s (.next (u.raise k))
  | done (u : State) {p : Bool} (herrSeen : u.status.errSeen = s.status.errSeen)
      (hpass : p = false → i = .pulses ∨ ∃ clk, i = .x50read clk) : Reports i s (.next (u.done p))

variable {i : Instr} {s t : State} {o : Host.Outcome State Fault Refusal}

/-- `done(1)`. -/
theorem Reports.pass (u : State) (herrSeen : u.status.errSeen = s.status.errSeen) :
    Reports i s (.next (u.done true)) :=
  .done u herrSeen nofun

/-- A test that stands before the rest of the command. -/
theorem Reports.guard {c : Prop} [Decidable c] {u : State} {k : ErrKind} (h : Reports i s o)
    (hk : k ≠ .none := by decide) : Reports i s (if c then .next (u.raise k) else o) := by
  split
  · exact .raise u hk
  · exact h

theorem Reports.of_err (h : Reports i s (.next t)) (herr : t.status.err ≠ .none) :
    t.status.pass = false ∧ t.status.errSeen = true := by
  cases h with
  | raise u => exact ⟨rfl, rfl⟩
  | done u => exact absurd rfl herr

theorem Reports.of_no_err (h : Reports i s (.next t)) (herr : t.status.err = .none) :
    t.status.errSeen = s.status.errSeen ∧ (t.status.pass = false → i = .pulses ∨ ∃ clk, i = .x50read clk) := by
  cases h with
  | raise u hk => exact absurd herr hk
  | done u herrSeen hpass => exact ⟨herrSeen, hpass⟩

/-- A report with an error says nothing of the command or of where it started. -/
theorem Reports.transfer {i' : Instr} {s' : State} (h : Reports i s (.next t)) (herr : t.status.err ≠ .none) :
    Reports i' s' (.next t) := by
  cases h with
  | raise u hk => exact .raise u hk
  | done u => exact absurd rfl herr

/-! ### Parity Validator -/

theorem parityCommand_reports (i : Instr) (s : State) (rows cols : Nat) (v : Verdict) :
    Reports i s (.next (s.parityCommand rows cols v)) := by
  unfold State.parityCommand
  split
  · exact .raise s
  split
  · exact .raise s
  cases v with
  | invalid | fails => exact .raise s
  | holds => exact .pass s rfl

/-! ### Clock and markers -/

theorem execPulses_reports (s : State) : Reports .pulses s (execPulses s) := by
  unfold execPulses
  rcases s.capture.conclude_cases fun t => decide (0 < t.plen.toNat) with ⟨k, herror, hend⟩ | ⟨-, hend⟩
  · obtain rfl := capture_error herror
    rw [hend]
    exact .raise _
  · rw [hend]
    exact .done _ (capture_errSeen s) fun _ => .inl rfl

theorem execClksel_reports (clk : Nat) (s : State) : Reports (.clksel clk) s (execClksel clk s) := by
  unfold execClksel
  rcases chooseClock_cases s true clk with ⟨k, hk, hclock, -⟩ | ⟨c, hclock, -⟩
  · rw [hclock]
    exact .raise _ hk
  · rw [hclock]
    exact .pass _ rfl

theorem execLwfind_reports (s : State) : Reports .lwfind s (execLwfind s) := by
  unfold execLwfind
  refine .guard ?_
  split
  · exact .raise _
  · exact .pass _ rfl

theorem execLwsync_reports (clk : Nat) (s : State) : Reports (.lwsync clk) s (execLwsync clk s) := by
  unfold execLwsync
  rcases sync_cases s clk with ⟨u, k, hk, hsync⟩ | ⟨v, u, hsync, hmarkers, herrSeen⟩
  · rw [hsync]
    exact .raise u hk
  · obtain ⟨-, -, hscans⟩ := syncMarkers_registers hmarkers
    rw [hsync]
    exact .pass u (hscans.trans herrSeen)

/-! ### Blocks -/

/-- X50READ reports the error of its synchronisation, or an end of the block loop. -/
theorem exec_x50read_reports (clk : Nat) (s : State) : Reports (.x50read clk) s (exec (.x50read clk) s) := by
  rcases x50read_cases s clk with ⟨a, hlwsync, herr, -, hread⟩ | ⟨u, -, hready, hread⟩
  · have hsync : Reports (.lwsync clk) (x50Cleared s) (.next a) := hlwsync ▸ execLwsync_reports clk (x50Cleared s)
    rw [hread]
    exact hsync.transfer herr
  · obtain ⟨n, calls, p, e, -, -, hends, hloop⟩ := readBlocks_ends hready.nblk
    rw [hread, hloop]
    cases hends with
    | noMarker =>
      have hkept := congrArg Status.errSeen (status_blocksRead hready.nblk n)
      exact .done _ (hkept.trans hready.errSeen) fun _ => .inr ⟨clk, rfl⟩
    | emptyWindow | noBits | fewBits => exact .raise _

theorem execX50code_reports (s : State) : Reports .x50code s (execX50code s) := by
  unfold execX50code
  exact .guard (.pass _ rfl)

/-! ### Responses -/

/-- X05DEC is refused, or its cascade ends with a winner or with none. -/
theorem exec_x05dec_reports (addr : Nat) (readCmd : Bool) (s : State) :
    Reports (.x05dec addr readCmd) s (exec (.x05dec addr readCmd) s) := by
  obtain ⟨hbadAddr, hnoResponse, hempty⟩ := x05decRefusesBeforeAnyCall s addr readCmd
  by_cases haddr : 15 < addr
  · rw [hbadAddr haddr]
    exact .raise _
  replace haddr := not_lt.mp haddr
  cases hresp : s.respValid with
  | false =>
    rw [hnoResponse haddr hresp]
    exact .raise _
  | true =>
    by_cases hvisible : s.wlen.toNat ≤ s.wbase.toNat
    · rw [hempty haddr hresp hvisible]
      exact .raise _
    replace hvisible := not_le.mp hvisible
    obtain ⟨kind, n, hn, hfails, hwins⟩ := failing_stages s readCmd
    rcases hn.lt_or_eq with hlt | rfl
    · obtain ⟨bs, offset, hbits, hvalid⟩ := hwins hlt
      rw [exec_x05dec_of_winner haddr hresp hvisible hlt hfails hbits hvalid]
      exact .pass _ (congrArg (·.status.errSeen) (wonState_eq hlt))
    · rw [exec_x05dec_of_no_winner haddr hresp hvisible hfails]
      exact .raise _

theorem execX05test_reports (readCmd : Bool) (s : State) : Reports (.x05test readCmd) s (execX05test readCmd s) := by
  unfold execX05test
  refine .guard ?_
  split
  · next hfails => exact .raise s (test05_error hfails).2
  · exact .pass _ rfl
  · exact .pass _ rfl

theorem execPsk2map_reports (s : State) : Reports .psk2map s (execPsk2map s) := by
  unfold execPsk2map
  exact .guard (.pass _ rfl)

/-! ### Frames -/

theorem execE410enc_reports (clk : Nat) (s : State) : Reports (.e410enc clk) s (execE410enc clk s) := by
  unfold execE410enc
  exact .guard (.guard (.guard (.pass _ rfl)))

theorem execE410dec_reports (s : State) : Reports .e410dec s (execE410dec s) := by
  unfold execE410dec
  dsimp only
  split
  · exact .pass _ rfl
  · exact .guard (.guard (.guard (.guard (.guard (.pass _ rfl)))))

theorem execE410wchk_reports (clk : Nat) (s : State) : Reports (.e410wchk clk) s (execE410wchk clk s) := by
  unfold execE410wchk
  exact .guard (.guard (.pass _ rfl))

/-! ### Every command -/

/-- Every command but RST ends in a report (R172, R173). -/
theorem exec_reports (hrst : i ≠ .rst) (s : State) : Reports i s (exec i s) := by
  cases i with
  | nop => exact .pass s rfl
  | rowpar | colpar | blkpar => exact parityCommand_reports _ s _ _ _
  | pulses => exact execPulses_reports s
  | clksel clk => exact execClksel_reports clk s
  | lwfind => exact execLwfind_reports s
  | lwsync clk => exact execLwsync_reports clk s
  | x50read clk => exact exec_x50read_reports clk s
  | x50code => exact execX50code_reports s
  | x05dec addr readCmd => exact exec_x05dec_reports addr readCmd s
  | x05test readCmd => exact execX05test_reports readCmd s
  | psk2map => exact execPsk2map_reports s
  | x05info => exact .pass _ rfl
  | e410enc clk => exact execE410enc_reports clk s
  | e410dec => exact execE410dec_reports s
  | e410wchk clk => exact execE410wchk_reports clk s
  | rst => exact absurd rfl hrst

/-- Settles O16: RST leaves ERR 0, and every other command ends in a report. -/
theorem everyCommandEndsAndReports : Obligations.EveryCommandEndsAndReports := by
  intro i s
  obtain ⟨t, ht⟩ := exec_completes i s
  by_cases hrst : i = .rst
  · subst hrst
    cases ht
    exact ⟨_, rfl, fun herr => absurd rfl herr, fun _ hne => absurd rfl hne⟩
  · have hreport : Reports i s (.next t) := ht ▸ exec_reports hrst s
    exact ⟨t, ht, hreport.of_err, fun herr _ => (hreport.of_no_err herr).1⟩

/-- Settles O17: a report without an error and with PASS 0 is `done(0)`, which PULSES and X50READ alone reach. -/
theorem emptyVerdictOnlyFromPulsesAndX50read : Obligations.EmptyVerdictOnlyFromPulsesAndX50read := by
  intro i s t ht hrst herr hpass
  have hreport : Reports i s (.next t) := ht ▸ exec_reports hrst s
  exact (hreport.of_no_err herr).2 hpass

end Sys2Proof.Machine
end

section
/-! SUPPORT. Reset: what the registers read after it, RST and the hardware reset input (70_reset_and_hazards.md R190 to
R192), and the invariant right after it. -/
namespace Sys2Proof.Machine
open Sys2Proof.Claims

/-! ### The registers after reset -/

/-- R191 by the register map: the packed registers and the named ones are looked at one by one, every other number is
unnamed. -/
theorem readReg_reset (n : Nat) : State.reset.readReg n = if n = 0x0A then 8 else 0 := by
  have hpacked : ∀ m ∈ [0x09, 0x0A, 0x32, 0x33], State.reset.readReg m = if m = 0x0A then 8 else 0 := by decide
  have hnamed : ∀ p ∈ registerMap State.reset, p.2 = 0 := by decide
  by_cases hp : n ∈ [0x09, 0x0A, 0x32, 0x33]
  · exact hpacked n hp
  have hcfg : n ≠ 0x0A := by
    rintro rfl
    exact hp (by decide)
  rw [if_neg hcfg]
  by_cases hn : n ∈ (registerMap State.reset).map Prod.fst
  · obtain ⟨p, hmem, rfl⟩ := List.mem_map.mp hn
    rw [readReg_of_mem_registerMap hmem, hnamed p hmem]
  · exact readReg_of_unnamed hp hn

section
variable {s : State} {i : Nat}

theorem transact_rdwave_refused (h : s.wlen.toNat ≤ i) : s.transact (.rdwave i) = (s, .refused) :=
  if_neg (Nat.not_lt.mpr h)

theorem transact_rdbits_refused (h : s.blen.toNat ≤ i) : s.transact (.rdbits i) = (s, .refused) :=
  if_neg (Nat.not_lt.mpr h)

theorem transact_rdpulse_refused (h : s.plen.toNat ≤ i) : s.transact (.rdpulse i) = (s, .refused) :=
  if_neg (Nat.not_lt.mpr h)

end

/-- Settles O13: the register map gives the values, and the lengths, 0 after reset, exclude every element read. -/
theorem resetRegistersRead : Obligations.ResetRegistersRead :=
  ⟨readReg_reset, fun i => ⟨transact_rdwave_refused (Nat.zero_le i), transact_rdbits_refused (Nat.zero_le i),
    transact_rdpulse_refused (Nat.zero_le i)⟩⟩

/-! ### RST and the hardware reset input -/

theorem exec_rst (s : State) : exec .rst s = .next s.resetBlock := rfl

/-- No register shows what a reset of the block keeps. -/
theorem readReg_resetBlock (s : State) (n : Nat) : s.resetBlock.readReg n = State.reset.readReg n := rfl

/-- Settles O14: RST resets the block, which keeps what is not the block's and takes all else from the reset state. -/
theorem rstRestoresTheResetState : Obligations.RstRestoresTheResetState := by
  intro s
  obtain ⟨hparams, hdemodIn, hclockIn, hcalls, hpending, hpc, hreplies⟩ := s.resetBlock_keeps
  exact ⟨s.resetBlock, exec_rst s, readReg_resetBlock s, rfl, rfl, rfl, rfl, rfl, rfl, rfl,
    hparams, hpending, hpc, hreplies, hcalls, hdemodIn, hclockIn⟩

/-- A step takes the hardware reset input off the host's list and resets the block (R190; log 13). -/
theorem step_resetInput {s : State} {rest : List HostEvent} (hwf : s.params.wf) (h : s.pending = .resetInput :: rest) :
    step s = .next { s with pending := rest }.resetBlock := by
  rw [step, if_pos hwf, runNext, h]
  rfl

/-- Settles O15: RST and the input both reset the block. -/
theorem resetInputActsAsRst : Obligations.ResetInputActsAsRst := by
  intro s rest hwf h
  have hstep := step_resetInput hwf h
  refine ⟨by rw [hstep, exec_rst], _, hstep, fun n => ?_⟩
  rw [readReg_resetBlock, readReg_reset]

/-! ### The invariant -/

/-- Settles O22: a reset of the block meets the invariant, and the reset state differs from that only in the number of
the reset, which the invariant sees through the free contents of PULSE alone. -/
theorem resetMeetsTheInvariant : Obligations.ResetMeetsTheInvariant :=
  { State.reset.resetBlock_inv (by decide) with pulses := .of_no_pulse rfl rfl (Nat.zero_le _) }

end Sys2Proof.Machine
end
